-- ==== Sys2Proof/Word.lean ====
section
/-! DEFINITION. The byte, the one addressable unit of both memory spaces of the engine. -/

namespace Sys2Proof

/-- A byte; its bits are numbered 7 down to 0 (00_scope.md R11). -/
abbrev Byte := BitVec 8

end Sys2Proof
end

