-- ==== Sys2Proof/Config.lean ====
section
/-! DEFINITION. What the spec leaves open: the free values. `P_FRAME_INDEX_BITS` is 64 (00_scope.md R9)
and stands as the width of `State.frameIndex`; `P_CURSOR_BITS` is OPEN and every width that holds `L`
acts alike, so `cursor` and `L` are natural numbers (log 6). -/

namespace Sys2Proof

/-- Which register or byte a free value is for. -/
inductive FreeOf where
  | width
  | height
  | frameRate
  | frameBitCount
  | frameByteCount
  | streamLength
  | streamByte (a : Nat)
  | frameByte (a : Nat)
  | cursor
  | currentAlgorithm
  | remainingRepeats
  | frameIndex
  | debugLevel
  deriving DecidableEq, Repr

/-- FREE VALUE (log 4, log 5): `w` bits the spec leaves unspecified after an error, for the `draw`-th
error and one register or byte. Nothing is known of it. -/
opaque Config.freeBits (w : Nat) (draw : Nat) (what : FreeOf) : BitVec w

/-- FREE VALUE (log 4, log 5): a natural number the spec leaves unspecified after an error. -/
opaque Config.freeNat (draw : Nat) (what : FreeOf) : Nat

end Sys2Proof
end

