-- ==== Sys2Proof/Syntax.lean ====
section
/-! DEFINITION. The units of an M1VF stream, one constructor per row of spec/opcode_table.json, in the
notation of 30_encoding.md R106, and the decoding contexts of 30_encoding.md R101. -/

namespace Sys2Proof

/-- The eight algorithms a selector can name (30_encoding.md R94, 43_algorithms.md R190). -/
inductive Algorithm where
  | verbatim
  | identical
  | rlRaster
  | rlColumn
  | reserved4
  | reserved5
  | reserved6
  | reserved7
  deriving DecidableEq, Repr

/-- One stream unit. Counts are written as in 30_encoding.md R106: `rep` is the number of further
frames of the run (0 to 31), `len` the number of pixels of a token (1 to 128). -/
inductive Instr where
  /-- `.header`, the 5-byte prologue (R90). -/
  | header (width height : BitVec 16) (frameRate : BitVec 8)
  /-- `SEL.VERBATIM`, algorithm 0 (R192). -/
  | selVerbatim (rep : Nat)
  /-- `SEL.IDENTICAL`, algorithm 1 (R196). -/
  | selIdentical (rep : Nat)
  /-- `SEL.RL_RASTER`, algorithm 2 (R197). -/
  | selRlRaster (rep : Nat)
  /-- `SEL.RL_COLUMN`, algorithm 3 (R205). -/
  | selRlColumn (rep : Nat)
  /-- `SEL.RESERVED4`, the no-op of code 4 (R214). -/
  | selReserved4 (rep : Nat)
  /-- `SEL.RESERVED5`, the no-op of code 5 (R214). -/
  | selReserved5 (rep : Nat)
  /-- `SEL.RESERVED6`, the no-op of code 6 (R214). -/
  | selReserved6 (rep : Nat)
  /-- `SEL.RESERVED7`, the no-op of code 7 (R214). -/
  | selReserved7 (rep : Nat)
  /-- `TOK.RASTER`, a token in the payload of an algorithm-2 frame (R96, R197). -/
  | tokRaster (color : Bool) (len : Nat)
  /-- `TOK.COLUMN`, a token in the payload of an algorithm-3 frame (R96, R205). -/
  | tokColumn (color : Bool) (len : Nat)
  /-- `.bytes`, one byte of a Verbatim payload (R99, R192). -/
  | bytes (b : Byte)
  deriving DecidableEq, Repr

/-- Where a unit stands in the stream: this, and never the byte alone, says what the byte means
(30_encoding.md R101 and R109). The run-length context is split by algorithm, as the table's rows are. -/
inductive Context where
  | header
  | selector
  | raster
  | column
  | verbatim
  deriving DecidableEq, Repr

/-- The context in which a unit is read (30_encoding.md R109). -/
def Instr.context : Instr → Context
  | .header _ _ _ => .header
  | .selVerbatim _ => .selector
  | .selIdentical _ => .selector
  | .selRlRaster _ => .selector
  | .selRlColumn _ => .selector
  | .selReserved4 _ => .selector
  | .selReserved5 _ => .selector
  | .selReserved6 _ => .selector
  | .selReserved7 _ => .selector
  | .tokRaster _ _ => .raster
  | .tokColumn _ _ => .column
  | .bytes _ => .verbatim

end Sys2Proof
end

