-- ==== Sys2Proof/WellFormed.lean ====
section
/-! DEFINITION. Which units can be written in a stream: the operand ranges of 30_encoding.md R106. -/

namespace Sys2Proof

/-- A repeat count fits the 5-bit field of a selector: `0 <= rep <= 31` (R106). -/
def repOk (rep : Nat) : Bool := decide (rep ≤ 31)

/-- A token length fits the length-minus-one field: `1 <= len <= 128` (R97, R106). -/
def lenOk (len : Nat) : Bool := decide (1 ≤ len) && decide (len ≤ 128)

/-- Well-formed units. `W`, `H` and `FR` of a header and the byte of `.bytes` are in range by their
types (R91, R99: every value is legal). -/
def Instr.wf : Instr → Bool
  | .header _ _ _ => true
  | .selVerbatim rep => repOk rep
  | .selIdentical rep => repOk rep
  | .selRlRaster rep => repOk rep
  | .selRlColumn rep => repOk rep
  | .selReserved4 rep => repOk rep
  | .selReserved5 rep => repOk rep
  | .selReserved6 rep => repOk rep
  | .selReserved7 rep => repOk rep
  | .tokRaster _ len => lenOk len
  | .tokColumn _ len => lenOk len
  | .bytes _ => true

end Sys2Proof
end

