-- ==== Sys2Proof/Decode.lean ====
section
/-! DEFINITION. Decoding of stream bytes into units in a context (30_encoding.md), the encoder written
from the same tables, and the pseudo-instruction `RUN`. Decoding is total: no byte is illegal (R103,
R104), so only a missing byte is rejected, by name. -/

namespace Sys2Proof

/-- Why no unit can be read. -/
inductive DecodeError where
  /-- Fewer than 5 bytes stand where a header is read (40_header_parser.md R121). -/
  | shortHeader
  /-- No byte stands where a selector, token or payload byte is read (42_run_state_machine.md R163). -/
  | noByte
  deriving DecidableEq, Repr

/-- The result of decoding: a unit and the bytes after it, or a rejection. -/
inductive Decoded where
  | ok (i : Instr) (rest : List Byte)
  | bad (e : DecodeError)
  deriving DecidableEq, Repr

/-- The number of an algorithm, the `alg` field (R94). -/
def Algorithm.code : Algorithm → Nat
  | .verbatim => 0
  | .identical => 1
  | .rlRaster => 2
  | .rlColumn => 3
  | .reserved4 => 4
  | .reserved5 => 5
  | .reserved6 => 6
  | .reserved7 => 7

/-- The algorithm of a number; a number above 7 names none (R94, 42_run_state_machine.md R175). -/
def Algorithm.ofCode : Nat → Option Algorithm
  | 0 => some .verbatim
  | 1 => some .identical
  | 2 => some .rlRaster
  | 3 => some .rlColumn
  | 4 => some .reserved4
  | 5 => some .reserved5
  | 6 => some .reserved6
  | 7 => some .reserved7
  | _ + 8 => none

/-- `byte >> 5`, the `alg` field of a selector (R93). -/
def selectorAlg (b : Byte) : Nat := (b.extractLsb' 5 3).toNat

/-- `byte & 0x1F`, the `rep` field of a selector (R93, R95). -/
def selectorRep (b : Byte) : Nat := (b.extractLsb' 0 5).toNat

/-- The colour of a token: bit 7 (R98). -/
def tokenColor (b : Byte) : Bool := b.getLsbD 7

/-- The length of a token: bits 6:0 plus one (R97). -/
def tokenLength (b : Byte) : Nat := (b.extractLsb' 0 7).toNat + 1

/-- Two bytes as a big-endian 16-bit field, high byte first (R91). -/
def bigEndian (hi lo : Byte) : BitVec 16 := hi ++ lo

/-- The selector unit of an algorithm (R94). -/
def Algorithm.selector : Algorithm → Nat → Instr
  | .verbatim, rep => .selVerbatim rep
  | .identical, rep => .selIdentical rep
  | .rlRaster, rep => .selRlRaster rep
  | .rlColumn, rep => .selRlColumn rep
  | .reserved4, rep => .selReserved4 rep
  | .reserved5, rep => .selReserved5 rep
  | .reserved6, rep => .selReserved6 rep
  | .reserved7, rep => .selReserved7 rep

/-- Every byte is a selector (R103): the 3-bit field names one of the eight algorithms. The last arm
is never taken (`selectorAlg` is below 8); it stands so that the function is total. -/
def decodeSelector (b : Byte) : Instr :=
  match Algorithm.ofCode (selectorAlg b) with
  | some a => a.selector (selectorRep b)
  | none => .selReserved7 (selectorRep b)

/-- Reads one unit in a context from the front of a byte sequence (R100, R101, R109). -/
def decode : Context → List Byte → Decoded
  | .header, b0 :: b1 :: b2 :: b3 :: b4 :: rest =>
    .ok (.header (bigEndian b0 b1) (bigEndian b2 b3) b4) rest
  | .header, _ => .bad .shortHeader
  | .selector, b :: rest => .ok (decodeSelector b) rest
  | .selector, [] => .bad .noByte
  | .raster, b :: rest => .ok (.tokRaster (tokenColor b) (tokenLength b)) rest
  | .raster, [] => .bad .noByte
  | .column, b :: rest => .ok (.tokColumn (tokenColor b) (tokenLength b)) rest
  | .column, [] => .bad .noByte
  | .verbatim, b :: rest => .ok (.bytes b) rest
  | .verbatim, [] => .bad .noByte

/-- `alg * 32 + rep` (R106). -/
def encodeSelector (a : Algorithm) (rep : Nat) : List Byte := [BitVec.ofNat 8 (a.code * 32 + rep)]

/-- `c * 128 + (len - 1)` (R106). -/
def encodeToken (color : Bool) (len : Nat) : List Byte := [BitVec.ofNat 8 (color.toNat * 128 + (len - 1))]

/-- The bytes of a unit (30_encoding.md R106). -/
def encode : Instr → List Byte
  | .header w h fr => [w.extractLsb' 8 8, w.extractLsb' 0 8, h.extractLsb' 8 8, h.extractLsb' 0 8, fr]
  | .selVerbatim rep => encodeSelector .verbatim rep
  | .selIdentical rep => encodeSelector .identical rep
  | .selRlRaster rep => encodeSelector .rlRaster rep
  | .selRlColumn rep => encodeSelector .rlColumn rep
  | .selReserved4 rep => encodeSelector .reserved4 rep
  | .selReserved5 rep => encodeSelector .reserved5 rep
  | .selReserved6 rep => encodeSelector .reserved6 rep
  | .selReserved7 rep => encodeSelector .reserved7 rep
  | .tokRaster color len => encodeToken color len
  | .tokColumn color len => encodeToken color len
  | .bytes b => [b]

/-- `RUN c, n` (R107): `n div 128` tokens of length 128, then one of length `n mod 128` if that is not
0. `tok` is the token row of the payload it stands in (`.tokRaster` or `.tokColumn`). -/
def expandRun (tok : Bool → Nat → Instr) (color : Bool) (n : Nat) : List Instr :=
  List.replicate (n / 128) (tok color 128) ++ (if 0 < n % 128 then [tok color (n % 128)] else [])

/-- The bytes of `n` bits numbered as spec/opcode_table.json numbers them, in stream order. A row is
one number whose most significant byte is stored first: `.header`'s width is bits 39:24 (R65, log 7). -/
def tableBytes : Nat → Nat → List Byte
  | 0, _ => []
  | k + 1, w => BitVec.ofNat 8 (w / 2 ^ (8 * k)) :: tableBytes k w

/-- The context the table's bit count stands for where nothing else is known: 40 bits are a header, 8
bits are read at a selector position, the one 8-bit context that needs no frame in progress (log 7). -/
def tableContext (nbits : Nat) : Option Context :=
  if nbits = 40 then some .header else if nbits = 8 then some .selector else none

/-- The unit the decoder reads from a word of the opcode table. -/
def decodeTableWord (nbits w : Nat) : Option Instr :=
  match tableContext nbits with
  | none => none
  | some c =>
    match decode c (tableBytes (nbits / 8) w) with
    | .ok i _ => some i
    | .bad _ => none

end Sys2Proof
end

