-- ==== Sys2Proof/Machine/State.lean ====
section
/-! DEFINITION. The state of the engine (10_state.md), as plain data, and its value at power-on. -/

namespace Sys2Proof.Machine

open Sys2Proof

/-- A memory space: cells with strictly rising addresses, none holding what an unlisted address reads
as (`Memory.unlisted`, Machine/Ops.lean; log 8). -/
abbrev Memory := List Host.Cell

/-- `engine_state` (10_state.md R44). -/
inductive EngineState where
  /-- Power-on, or a failed CONSTRUCT: no decoder instance exists. -/
  | unconstructed
  /-- A decoder instance exists and no error has been raised since CONSTRUCT. -/
  | ready
  /-- A DECODE_NEXT has raised an error since the last CONSTRUCT. -/
  | faulted
  deriving DecidableEq, Repr

/-- What `last_error` holds: `OK` or one of the four error kinds (60_exceptions.md R230, R235). -/
inductive ResultCode where
  | ok
  | truncatedHeader
  | truncatedStream
  | bitIndexOutOfRange
  | unknownAlgorithm
  deriving DecidableEq, Repr

/-- The six accessors of READ_GEOMETRY (40_header_parser.md R132). -/
inductive Geometry where
  | width
  | height
  | frameRate
  | frameByteCount
  | frameBitCount
  | framesDecodedSoFar
  deriving DecidableEq, Repr

/-- A host operation (00_scope.md R15). -/
inductive HostOp where
  /-- CONSTRUCT (40_header_parser.md R120); the host may leave `debugLevel` out, which gives 0. -/
  | construct (data : List Byte) (debugLevel : BitVec 8 := 0)
  /-- DECODE_NEXT (42_run_state_machine.md R160). -/
  | decodeNext
  /-- READ_GEOMETRY (40_header_parser.md R132). -/
  | readGeometry (name : Geometry)
  deriving DecidableEq, Repr

/-- The result of a completed host operation. -/
inductive HostResult where
  /-- CONSTRUCT returned `OK` (R128). -/
  | constructed
  /-- READ_GEOMETRY returned `OK(value)` (R132). -/
  | value (v : Nat)
  /-- DECODE_NEXT returned `OK(frame, has_more)` (R160). -/
  | frame (bytes : List Byte) (hasMore : Bool)
  /-- The operation returned an error kind (60_exceptions.md R236). -/
  | failed (code : ResultCode)
  deriving DecidableEq, Repr

/-- How far the DECODE_NEXT in progress has come (the MODEL's own, log 3): nothing in progress, or the
payload context being read and the position in the frame: the count `i` of 43_algorithms.md R197 and
R205, or the byte index `k` of 41_frame_buffer.md R145. -/
inductive Work where
  | idle
  | raster (i : Nat)
  | column (i : Nat)
  | verbatim (k : Nat)
  deriving DecidableEq, Repr

/-- Why the machine stops with a fault. -/
inductive Fault where
  /-- Raised by `.bytes` alone: a payload byte would be stored at byte `k` at or past
  `frame_byte_count`, an address the frame buffer space does not have (20_memory.md R63). No run
  reaches it (log 13). SAFE: the model stops where the spec gives no effect. -/
  | frameByteOutOfRange (k : Nat)
  deriving DecidableEq, Repr

/-- Why there is no meaning. -/
inductive Refusal where
  /-- An instruction without a meaning in this model (none is left). SAFE. -/
  | notModelled (mnemonic : String)
  /-- Raised by DECODE_NEXT and READ_GEOMETRY in `UNCONSTRUCTED`: the spec has a model refuse them
  (42_run_state_machine.md R161, 40_header_parser.md R132). SAFE. -/
  | unconstructed
  /-- Raised by an instruction in a state that does not read a unit of its context, where the byte is
  no such unit (30_encoding.md R101, log 9), and by a step in a state no run reaches. SAFE. -/
  | outOfContext
  deriving DecidableEq, Repr

/-- The state of the engine: 10_state.md R30, and the model's own four fields last. -/
structure State where
  /-- `width` (R31). -/
  width : BitVec 16
  /-- `height` (R31). -/
  height : BitVec 16
  /-- `frame_rate` (R31). -/
  frameRate : BitVec 8
  /-- `frame_bit_count` (R32). -/
  frameBitCount : BitVec 32
  /-- `frame_byte_count` (R32). -/
  frameByteCount : BitVec 30
  /-- `L` (R33). -/
  streamLength : Nat
  /-- The input stream space (R34); its bytes stand at 0 to `L - 1`. -/
  stream : Memory
  /-- `FB` (R35); its bytes stand at 0 to `frame_byte_count - 1`. -/
  fb : Memory
  /-- `cursor` (R36), the program counter. -/
  cursor : Nat
  /-- `current_algorithm` (R37). -/
  currentAlgorithm : BitVec 3
  /-- `remaining_repeats` (R38). -/
  remainingRepeats : BitVec 8
  /-- `frame_index` (R39). -/
  frameIndex : BitVec 64
  /-- `debug_level` (R42). -/
  debugLevel : BitVec 8
  /-- `engine_state` (R44). -/
  engineState : EngineState
  /-- `last_error` (R45). -/
  lastError : ResultCode
  /-- MODEL (log 3): the operation in progress. -/
  work : Work
  /-- MODEL (log 2): the host operations still to be performed, oldest first; the one in progress, if
  any, is the head. -/
  requests : List HostOp
  /-- MODEL (log 2): the results handed to the host, newest first. -/
  results : List HostResult
  /-- MODEL (log 4): how many times free values have been drawn. -/
  freeDraws : Nat
  deriving DecidableEq, Repr

/-- Power-on (70_reset_and_hazards.md R260): `UNCONSTRUCTED`, no decoder instance. The spec gives no
other register a value; the values here are the model's (DESIGN CHOICE, log 1). The spec's own reset
is a successful CONSTRUCT (R261), `State.construct` of Machine/Ops.lean. -/
def State.reset : State where
  width := 0
  height := 0
  frameRate := 0
  frameBitCount := 0
  frameByteCount := 0
  streamLength := 0
  stream := []
  fb := []
  cursor := 5
  currentAlgorithm := 0
  remainingRepeats := 0
  frameIndex := 0
  debugLevel := 0
  engineState := .unconstructed
  lastError := .ok
  work := .idle
  requests := []
  results := []
  freeDraws := 0

end Sys2Proof.Machine
end

