-- ==== Sys2Proof/Machine/Flags.lean ====
section
/-! DEFINITION. The one flag of the engine and the derived run state. The engine stores no flag
(10_state.md R41). -/

namespace Sys2Proof.Machine

open Sys2Proof

/-- `has_more`, `cursor < L` (42_run_state_machine.md R170). -/
def State.hasMore (s : State) : Bool := decide (s.cursor < s.streamLength)

/-- The run state, derived from `remaining_repeats` (10_state.md R40). -/
inductive RunState where
  | awaitingSelector
  | inRun (remaining : Nat)
  deriving DecidableEq, Repr

/-- `AwaitingSelector` when `remaining_repeats = 0`, else `InRun` (10_state.md R40). -/
def State.runState (s : State) : RunState :=
  if s.remainingRepeats = 0 then .awaitingSelector else .inRun s.remainingRepeats.toNat

/-- The number of a result code (60_exceptions.md R235). -/
def ResultCode.code : ResultCode → BitVec 3
  | .ok => 0
  | .truncatedHeader => 1
  | .truncatedStream => 2
  | .bitIndexOutOfRange => 3
  | .unknownAlgorithm => 4

/-- The result code the host sees with a result (10_state.md R45, 60_exceptions.md R235). -/
def HostResult.code : HostResult → BitVec 3
  | .constructed => 0
  | .value _ => 0
  | .frame _ _ => 0
  | .failed c => c.code

end Sys2Proof.Machine
end

