-- ==== Sys2Proof/Machine/Operands.lean ====
section
/-! DEFINITION. Where operands stand: pixels and bits of the frame buffer, and the place in the stream
that says what the next byte is. -/

namespace Sys2Proof.Machine

open Sys2Proof

/-- `ceil8(n) = (n + 7) div 8` (00_scope.md R11). -/
def ceil8 (n : Nat) : Nat := (n + 7) / 8

/-- The byte that holds linear bit `j` (20_memory.md R66). -/
def bitByte (j : Nat) : Nat := j / 8

/-- The bit number, 7 down to 0, of linear bit `j` in its byte (R66). -/
def bitInByte (j : Nat) : Nat := 7 - j % 8

/-- `0x80 >> (j mod 8)` (R66, 41_frame_buffer.md R141). -/
def bitMask (j : Nat) : Byte := 0x80#8 >>> (j % 8)

/-- The linear bit of the pixel at a column and a row (20_memory.md R67, 41_frame_buffer.md R143). -/
def State.pixelIndex (s : State) (column row : Nat) : Nat := row * s.width.toNat + column

/-- The linear bit algorithm 3 writes at count `i`: column `i div height`, row `i mod height`
(43_algorithms.md R206). -/
def State.columnIndex (s : State) (i : Nat) : Nat :=
  s.pixelIndex (i / s.height.toNat) (i % s.height.toNat)

/-- The position in the frame of the operation in progress. -/
def Work.position : Work → Nat
  | .idle => 0
  | .raster i => i
  | .column i => i
  | .verbatim k => k

/-- The context in which the engine reads its next stream unit (30_encoding.md R101), if its next step
reads one: a payload byte of the frame in progress; the header, at a CONSTRUCT; a selector, at a
DECODE_NEXT in `READY` and `AwaitingSelector` (42_run_state_machine.md R162). -/
def State.context (s : State) : Option Context :=
  match s.work, s.requests, s.engineState with
  | .raster _, _, .ready => some .raster
  | .column _, _, .ready => some .column
  | .verbatim _, _, .ready => some .verbatim
  | .idle, .construct _ _ :: _, _ => some .header
  | .idle, .decodeNext :: _, .ready => if s.remainingRepeats = 0 then some .selector else none
  | _, _, _ => none

/-- The value an accessor reads (40_header_parser.md R132). -/
def State.geometry (s : State) : Geometry → Nat
  | .width => s.width.toNat
  | .height => s.height.toNat
  | .frameRate => s.frameRate.toNat
  | .frameByteCount => s.frameByteCount.toNat
  | .frameBitCount => s.frameBitCount.toNat
  | .framesDecodedSoFar => s.frameIndex.toNat

end Sys2Proof.Machine
end

