-- ==== Sys2Proof/Machine/Ops.lean ====
section
/-! DEFINITION. The shared operations: memory, the frame-buffer primitives (41_frame_buffer.md), the
host's results, raising an error (60_exceptions.md R236), construction (40_header_parser.md R130), the
parts of DECODE_NEXT (42_run_state_machine.md R171) and of the algorithms (43_algorithms.md). -/

namespace Sys2Proof.Machine

open Sys2Proof

/-! ### Memory -/

/-- What an address no cell lists reads as: 0x00, the frame buffer's contents after CONSTRUCT
(40_header_parser.md R127); in the stream an unlisted byte below `L` is a supplied 0x00 (log 8). -/
abbrev Memory.unlisted : Byte := 0#8

/-- The byte at an address. -/
def Memory.read : Memory → Nat → Byte
  | [], _ => Memory.unlisted
  | (a, b) :: m, k => if a = k then b else Memory.read m k

/-- Stores a byte, keeping the canonical form: an unlisted value is not listed. -/
def Memory.write : Memory → Nat → Byte → Memory
  | [], k, v => if v = Memory.unlisted then [] else [(k, v)]
  | (a, b) :: m, k, v =>
    if k < a then (if v = Memory.unlisted then (a, b) :: m else (k, v) :: (a, b) :: m)
    else if k = a then (if v = Memory.unlisted then m else (a, v) :: m)
    else (a, b) :: Memory.write m k v

/-- The memory that holds a byte sequence from address `a` on. -/
def Memory.ofBytes : Nat → List Byte → Memory
  | _, [] => []
  | a, b :: bs => if b = Memory.unlisted then Memory.ofBytes (a + 1) bs else (a, b) :: Memory.ofBytes (a + 1) bs

/-- The canonical form from address `lo` on: addresses strictly rise, no cell holds the unlisted value. -/
def Memory.wfFrom : Nat → Memory → Bool
  | _, [] => true
  | lo, (a, b) :: m => decide (lo ≤ a) && (b != Memory.unlisted) && Memory.wfFrom (a + 1) m

/-- The canonical form: equal memories are equal lists. -/
def Memory.wf (m : Memory) : Bool := Memory.wfFrom 0 m

/-- Every listed cell stands below an address: the space has no byte at or above it. -/
def Memory.below (m : Memory) (n : Nat) : Bool := m.all fun c => decide (c.1 < n)

/-- `n` bytes from address `a` (00_scope.md R12, MemRead). -/
def Memory.readBytes (m : Memory) : Nat → Nat → List Byte
  | _, 0 => []
  | a, n + 1 => Memory.read m a :: Memory.readBytes m (a + 1) n

/-- `n` bytes of which nothing is known (log 4, log 5). -/
def Memory.free (draw : Nat) (what : Nat → FreeOf) (n : Nat) : Memory :=
  Memory.ofBytes 0 ((List.range n).map fun a => Config.freeBits 8 draw (what a))

/-! ### The stream (20_memory.md R60, R61) -/

/-- `In[a]`. Callers check `a < L` first (00_scope.md R12). -/
def State.streamByte (s : State) (a : Nat) : Byte := Memory.read s.stream a

/-- Consumes `n` stream bytes: `cursor <- cursor + n` (10_state.md R36). -/
def State.advance (s : State) (n : Nat) : State := { s with cursor := s.cursor + n }

/-! ### The frame buffer (41_frame_buffer.md) -/

/-- `FB.byte[k]`. -/
def State.frameByte (s : State) (k : Nat) : Byte := Memory.read s.fb k

/-- `FB.bit[j]` (00_scope.md R12, 20_memory.md R66). -/
def State.frameBit (s : State) (j : Nat) : Bool := (s.frameByte (bitByte j)).getLsbD (bitInByte j)

/-- `FB.byte[k] <- b`. -/
def State.setFrameByte (s : State) (k : Nat) (b : Byte) : State := { s with fb := Memory.write s.fb k b }

/-- SetBit (R141, R142): the bound is checked before anything is written. -/
def State.setBit (s : State) (j : Nat) (v : Bool) : Except ResultCode State :=
  if j < s.frameBitCount.toNat then
    .ok (s.setFrameByte (bitByte j)
      (if v then s.frameByte (bitByte j) ||| bitMask j else s.frameByte (bitByte j) &&& ~~~(bitMask j)))
  else .error .bitIndexOutOfRange

/-- SetPixel (R143, R144): only the linear index is checked. -/
def State.setPixel (s : State) (column row : Nat) (v : Bool) : Except ResultCode State :=
  s.setBit (s.pixelIndex column row) v

/-- CopyFrom (R145) from byte `k` on: `FB.byte[k] <- P[0]`, and so on. -/
def State.copyFrom (s : State) : Nat → List Byte → State
  | _, [] => s
  | k, b :: bs => (s.setFrameByte k b).copyFrom (k + 1) bs

/-- Snapshot (R146): all `frame_byte_count` bytes, padding included. -/
def State.snapshot (s : State) : List Byte := Memory.readBytes s.fb 0 s.frameByteCount.toNat

/-! ### Results and errors -/

/-- Completes the host operation at the head of the requests with a result (log 2). -/
def State.respond (s : State) (r : HostResult) : State :=
  { s with work := .idle, requests := s.requests.tail, results := r :: s.results }

/-- `raise E` in DECODE_NEXT, the one error entry of the engine (60_exceptions.md R236): `FAULTED`,
`last_error`, the kind returned with no frame. `FB`, `cursor`, `current_algorithm` and
`remaining_repeats` are then unspecified (R238): free values, within the size of `FB` (10_state.md
R49) and the bound of `remaining_repeats` (10_state.md R50; log 4, log 11). Nothing returns from an
error: CONSTRUCT is the only way out (R239). -/
def State.raise (s : State) (e : ResultCode) : State :=
  { s with
    engineState := .faulted
    lastError := e
    fb := Memory.free s.freeDraws .frameByte s.frameByteCount.toNat
    cursor := Config.freeNat s.freeDraws .cursor
    currentAlgorithm := Config.freeBits 3 s.freeDraws .currentAlgorithm
    remainingRepeats := (Config.freeBits 5 s.freeDraws .remainingRepeats).setWidth 8
    freeDraws := s.freeDraws + 1
    work := .idle
    requests := s.requests.tail
    results := .failed e :: s.results }

/-! ### CONSTRUCT (40_header_parser.md R130) -/

/-- CONSTRUCT of fewer than 5 bytes (R121): no decoder instance exists afterwards. No other register
holds a value, so each is a free value (log 5). -/
def State.constructTruncated (s : State) : State where
  width := Config.freeBits 16 s.freeDraws .width
  height := Config.freeBits 16 s.freeDraws .height
  frameRate := Config.freeBits 8 s.freeDraws .frameRate
  frameBitCount := Config.freeBits 32 s.freeDraws .frameBitCount
  frameByteCount := Config.freeBits 30 s.freeDraws .frameByteCount
  streamLength := Config.freeNat s.freeDraws .streamLength
  stream := Memory.free s.freeDraws .streamByte (Config.freeNat s.freeDraws .streamLength)
  fb := Memory.free s.freeDraws .frameByte (Config.freeBits 30 s.freeDraws .frameByteCount).toNat
  cursor := Config.freeNat s.freeDraws .cursor
  currentAlgorithm := Config.freeBits 3 s.freeDraws .currentAlgorithm
  remainingRepeats := (Config.freeBits 5 s.freeDraws .remainingRepeats).setWidth 8
  frameIndex := Config.freeBits 64 s.freeDraws .frameIndex
  debugLevel := Config.freeBits 8 s.freeDraws .debugLevel
  engineState := .unconstructed
  lastError := .truncatedHeader
  work := .idle
  requests := s.requests.tail
  results := .failed .truncatedHeader :: s.results
  freeDraws := s.freeDraws + 1

/-- CONSTRUCT of 5 bytes or more whose header reads `w`, `h`, `fr` (R122 to R128): every register is
written, whatever the engine held before (R131). -/
def State.construct (s : State) (w h : BitVec 16) (fr : BitVec 8) (data : List Byte) (dbg : BitVec 8) : State where
  width := w
  height := h
  frameRate := fr
  frameBitCount := BitVec.ofNat 32 (w.toNat * h.toNat)
  frameByteCount := BitVec.ofNat 30 (ceil8 (w.toNat * h.toNat))
  streamLength := data.length
  stream := Memory.ofBytes 0 data
  fb := []
  cursor := 5
  currentAlgorithm := 0
  remainingRepeats := 0
  frameIndex := 0
  debugLevel := dbg
  engineState := .ready
  lastError := .ok
  work := .idle
  requests := s.requests.tail
  results := .constructed :: s.results
  freeDraws := s.freeDraws

/-! ### DECODE_NEXT (42_run_state_machine.md R171) -/

/-- Step 1 (R162, R164): the selector is consumed and sets the run. -/
def State.loadSelector (s : State) (a : Algorithm) (rep : Nat) : State :=
  { s with
    cursor := s.cursor + 1
    currentAlgorithm := BitVec.ofNat 3 a.code
    remainingRepeats := BitVec.ofNat 8 rep }

/-- Step 2 (R165): an in-run frame counts down and reads no selector. -/
def State.countRepeat (s : State) : State := { s with remainingRepeats := s.remainingRepeats - 1 }

/-- Steps 4 and 5 (R168, R169, R170): the frame is counted and handed to the host with `has_more`. -/
def State.completeFrame (s : State) : State :=
  { s with frameIndex := s.frameIndex + 1 }.respond (.frame s.snapshot s.hasMore)

/-- Goes on with the payload of the frame if the position is below its bound, else completes the frame. -/
def State.continueFrame (s : State) (bound : Nat) (w : Work) : State :=
  if w.position < bound then { s with work := w } else s.completeFrame

/-- Verbatim up to its first payload byte (43_algorithms.md R192, R193, R195): the one length check
comes before anything is copied. -/
def State.beginVerbatim (s : State) : State :=
  if s.cursor + s.frameByteCount.toNat > s.streamLength then s.raise .truncatedStream
  else s.continueFrame s.frameByteCount.toNat (.verbatim 0)

/-- Identical (R196): no mutation; the frame is complete at once. -/
def State.beginIdentical (s : State) : State := s.completeFrame

/-- Run-length raster up to its first token (R197, R198, R202): the loop tests before it reads. -/
def State.beginRaster (s : State) : State := s.continueFrame s.frameBitCount.toNat (.raster 0)

/-- Run-length column-major up to its first token (R205, R207, R210). -/
def State.beginColumn (s : State) : State := s.continueFrame s.frameBitCount.toNat (.column 0)

/-- Reserved codes 4 to 7 (R214): no mutation and no stream byte; the frame is complete at once. -/
def State.beginReserved (s : State) : State := s.completeFrame

/-- Step 3 (R167): the dispatch on `current_algorithm`, one arm per algorithm, and the defensive
`UnknownAlgorithm` (R175, 60_exceptions.md R234), which 3 bits never reach (log 12). -/
def State.dispatch (s : State) : State :=
  match Algorithm.ofCode s.currentAlgorithm.toNat with
  | some .verbatim => s.beginVerbatim
  | some .identical => s.beginIdentical
  | some .rlRaster => s.beginRaster
  | some .rlColumn => s.beginColumn
  | some .reserved4 => s.beginReserved
  | some .reserved5 => s.beginReserved
  | some .reserved6 => s.beginReserved
  | some .reserved7 => s.beginReserved
  | none => s.raise .unknownAlgorithm

/-- An in-run frame (R165, R167). -/
def State.repeatFrame (s : State) : State := s.countRepeat.dispatch

/-! ### Tokens (43_algorithms.md R191) -/

/-- The pixel of algorithm 2 at count `i`: linear bit `i` (R197, R203). -/
def rasterPixel (s : State) (i : Nat) (color : Bool) : Except ResultCode State := s.setBit i color

/-- The pixel of algorithm 3 at count `i` (R205, R206): the count is checked before a coordinate is
computed (R209). -/
def columnPixel (s : State) (i : Nat) (color : Bool) : Except ResultCode State :=
  if i ≥ s.frameBitCount.toNat then .error .bitIndexOutOfRange
  else s.setPixel (i / s.height.toNat) (i % s.height.toNat) color

/-- The pixel loop of a token: `len` pixels from count `i` on (R197, R205). -/
def paint (pixel : State → Nat → Bool → Except ResultCode State) (color : Bool) :
    Nat → Nat → State → Except ResultCode State
  | 0, _, s => .ok s
  | len + 1, i, s =>
    match pixel s i color with
    | .ok t => paint pixel color len (i + 1) t
    | .error e => .error e

/-- One token of algorithm 2 (R191, R197): consumed, painted, and then the frame goes on or is complete. -/
def State.rasterToken (s : State) (color : Bool) (len : Nat) : State :=
  match paint rasterPixel color len s.work.position (s.advance 1) with
  | .ok t => t.continueFrame t.frameBitCount.toNat (.raster (s.work.position + len))
  | .error e => s.raise e

/-- One token of algorithm 3 (R191, R205). -/
def State.columnToken (s : State) (color : Bool) (len : Nat) : State :=
  match paint columnPixel color len s.work.position (s.advance 1) with
  | .ok t => t.continueFrame t.frameBitCount.toNat (.column (s.work.position + len))
  | .error e => s.raise e

/-- One byte of a Verbatim payload: consumed and copied (43_algorithms.md R192, R194, 41_frame_buffer.md R145). -/
def State.payloadByte (s : State) (b : Byte) : State :=
  ((s.advance 1).setFrameByte s.work.position b).continueFrame s.frameByteCount.toNat
    (.verbatim (s.work.position + 1))

/-! ### Running a unit -/

/-- The outcome of a unit that is read in context `c` and gives `t`: outside its context a byte is no
such unit (30_encoding.md R101, log 9). -/
def inContext (c : Context) (s t : State) : Host.Outcome State Fault Refusal :=
  if s.context = some c then .next t else .refused .outOfContext

end Sys2Proof.Machine
end

