-- ==== Sys2Proof/Machine/Header.lean ====
section
/-! DEFINITION. The meaning of `.header`: CONSTRUCT (40_header_parser.md R130). -/

namespace Sys2Proof.Machine

open Sys2Proof

/-- `.header` (R130, 30_encoding.md R109): the CONSTRUCT in progress, whose data begins with this header. -/
def execHeader (w h : BitVec 16) (fr : BitVec 8) (s : State) : Host.Outcome State Fault Refusal :=
  match s.requests with
  | .construct data dbg :: _ => inContext .header s (s.construct w h fr data dbg)
  | _ => .refused .outOfContext

end Sys2Proof.Machine
end

