-- ==== Sys2Proof/Machine/Payload.lean ====
section
/-! DEFINITION. The meanings of the payload units: the tokens of algorithms 2 and 3 and the bytes of
algorithm 0 (43_algorithms.md). -/

namespace Sys2Proof.Machine

open Sys2Proof

/-- `TOK.RASTER` (R191, R197): `BitIndexOutOfRange` when it overshoots the frame (R203). -/
def execTokRaster (color : Bool) (len : Nat) (s : State) : Host.Outcome State Fault Refusal :=
  inContext .raster s (s.rasterToken color len)

/-- `TOK.COLUMN` (R191, R205): `BitIndexOutOfRange` when it overshoots the frame (R209). -/
def execTokColumn (color : Bool) (len : Nat) (s : State) : Host.Outcome State Fault Refusal :=
  inContext .column s (s.columnToken color len)

/-- `.bytes` (R192, R194). A byte past the frame buffer has no address to go to (20_memory.md R63, log 13). -/
def execBytes (b : Byte) (s : State) : Host.Outcome State Fault Refusal :=
  if s.context = some .verbatim ∧ s.frameByteCount.toNat ≤ s.work.position then
    .fault (.frameByteOutOfRange s.work.position)
  else inContext .verbatim s (s.payloadByte b)

end Sys2Proof.Machine
end

