-- ==== Sys2Proof/Machine/Selectors.lean ====
section
/-! DEFINITION. The meanings of the eight selectors: step 1 of DECODE_NEXT, then the algorithm the
selector names (42_run_state_machine.md R171). -/

namespace Sys2Proof.Machine

open Sys2Proof

/-- `SEL.VERBATIM` (R164, 43_algorithms.md R192). -/
def execSelVerbatim (rep : Nat) (s : State) : Host.Outcome State Fault Refusal :=
  inContext .selector s (s.loadSelector .verbatim rep).beginVerbatim

/-- `SEL.IDENTICAL` (R164, 43_algorithms.md R196). -/
def execSelIdentical (rep : Nat) (s : State) : Host.Outcome State Fault Refusal :=
  inContext .selector s (s.loadSelector .identical rep).beginIdentical

/-- `SEL.RL_RASTER` (R164, 43_algorithms.md R197). -/
def execSelRlRaster (rep : Nat) (s : State) : Host.Outcome State Fault Refusal :=
  inContext .selector s (s.loadSelector .rlRaster rep).beginRaster

/-- `SEL.RL_COLUMN` (R164, 43_algorithms.md R205). -/
def execSelRlColumn (rep : Nat) (s : State) : Host.Outcome State Fault Refusal :=
  inContext .selector s (s.loadSelector .rlColumn rep).beginColumn

/-- `SEL.RESERVED4` (R164, 43_algorithms.md R214). -/
def execSelReserved4 (rep : Nat) (s : State) : Host.Outcome State Fault Refusal :=
  inContext .selector s (s.loadSelector .reserved4 rep).beginReserved

/-- `SEL.RESERVED5` (R164, 43_algorithms.md R214). -/
def execSelReserved5 (rep : Nat) (s : State) : Host.Outcome State Fault Refusal :=
  inContext .selector s (s.loadSelector .reserved5 rep).beginReserved

/-- `SEL.RESERVED6` (R164, 43_algorithms.md R214). -/
def execSelReserved6 (rep : Nat) (s : State) : Host.Outcome State Fault Refusal :=
  inContext .selector s (s.loadSelector .reserved6 rep).beginReserved

/-- `SEL.RESERVED7` (R164, 43_algorithms.md R214). -/
def execSelReserved7 (rep : Nat) (s : State) : Host.Outcome State Fault Refusal :=
  inContext .selector s (s.loadSelector .reserved7 rep).beginReserved

end Sys2Proof.Machine
end

