-- ==== Sys2Proof/Machine/Dispatch.lean ====
section
/-! DEFINITION. One arm per constructor of Instr. -/

namespace Sys2Proof.Machine

open Sys2Proof

def exec (i : Instr) (s : State) : Host.Outcome State Fault Refusal :=
  match i with
  | .header w h fr => Sys2Proof.Machine.execHeader w h fr s
  | .selVerbatim rep => Sys2Proof.Machine.execSelVerbatim rep s
  | .selIdentical rep => Sys2Proof.Machine.execSelIdentical rep s
  | .selRlRaster rep => Sys2Proof.Machine.execSelRlRaster rep s
  | .selRlColumn rep => Sys2Proof.Machine.execSelRlColumn rep s
  | .selReserved4 rep => Sys2Proof.Machine.execSelReserved4 rep s
  | .selReserved5 rep => Sys2Proof.Machine.execSelReserved5 rep s
  | .selReserved6 rep => Sys2Proof.Machine.execSelReserved6 rep s
  | .selReserved7 rep => Sys2Proof.Machine.execSelReserved7 rep s
  | .tokRaster color len => Sys2Proof.Machine.execTokRaster color len s
  | .tokColumn color len => Sys2Proof.Machine.execTokColumn color len s
  | .bytes b => Sys2Proof.Machine.execBytes b s

end Sys2Proof.Machine
end

