-- ==== Sys2Proof/Machine/Fetch.lean ====
section
/-! DEFINITION. What the next step does: which stream unit it reads, or which part of a host operation
it performs without reading one. -/

namespace Sys2Proof.Machine

open Sys2Proof

/-- What the next step does. -/
inductive Action where
  /-- Runs a decoded stream unit. -/
  | run (i : Instr)
  /-- Goes to a state without running a unit. -/
  | move (t : State)
  /-- Is refused. -/
  | refuse (r : Refusal)
  deriving DecidableEq, Repr

/-- The bytes a unit is read from: the data of a CONSTRUCT (40_header_parser.md R122), else the stream
byte at `cursor`, if there is one (42_run_state_machine.md R163, 43_algorithms.md R191). -/
def State.window (s : State) : Context → List Byte
  | .header =>
    match s.requests with
    | .construct data _ :: _ => data
    | _ => []
  | _ => if s.cursor < s.streamLength then [s.streamByte s.cursor] else []

/-- A unit is needed and is not there: `TruncatedHeader` (60_exceptions.md R231) or `TruncatedStream` (R232). -/
def State.truncated (s : State) : DecodeError → State
  | .shortHeader => s.constructTruncated
  | .noByte => s.raise .truncatedStream

/-- The parts of host operations that read no unit: DECODE_NEXT in `FAULTED` (60_exceptions.md R239), in
`UNCONSTRUCTED` (42_run_state_machine.md R161) and in a run (R165), READ_GEOMETRY
(40_header_parser.md R132), and no operation at all, when the engine holds its state (60_exceptions.md R249). -/
def State.hostAction (s : State) : Action :=
  if s.work = .idle then
    match s.requests with
    | [] => .move s
    | .construct _ _ :: _ => .refuse .outOfContext
    | .decodeNext :: _ =>
      match s.engineState with
      | .unconstructed => .refuse .unconstructed
      | .faulted => .move (s.respond (.failed s.lastError))
      | .ready => .move s.repeatFrame
    | .readGeometry name :: _ =>
      match s.engineState with
      | .unconstructed => .refuse .unconstructed
      | .faulted => .move (s.respond (.value (s.geometry name)))
      | .ready => .move (s.respond (.value (s.geometry name)))
  else .refuse .outOfContext

/-- What the next step does (30_encoding.md R101: the context first, then the byte). -/
def State.nextAction (s : State) : Action :=
  match s.context with
  | some c =>
    match decode c (s.window c) with
    | .ok i _ => .run i
    | .bad e => .move (s.truncated e)
  | none => s.hostAction

/-- Stores a word of the opcode table where the next step reads a unit (log 7): a header as the data of
a CONSTRUCT that the host requests, any other unit as the stream byte at `cursor` of a READY engine at
a selector position, for a DECODE_NEXT that the host requests. -/
def State.placeWord (s : State) (nbits w : Nat) : State :=
  if nbits = 40 then
    { s with work := .idle, requests := .construct (tableBytes 5 w) 0 :: s.requests }
  else
    { s with
      work := .idle
      requests := .decodeNext :: s.requests
      engineState := .ready
      remainingRepeats := 0
      stream := Memory.write s.stream s.cursor (BitVec.ofNat 8 w)
      streamLength := max s.streamLength (s.cursor + 1) }

end Sys2Proof.Machine
end

