-- ==== Sys2Proof/Machine/Transaction.lean ====
section
/-! DEFINITION. DECODE_NEXT as the one atomic transaction of 42_run_state_machine.md R171, written from
its pseudocode over the shared operations. The step performs the same operation one stream unit at a
time (log 3). -/

namespace Sys2Proof.Machine

open Sys2Proof

/-- Verbatim(), Identical() and so on end with a state or with `raise E` (00_scope.md R12). -/
abbrev FrameResult := Except ResultCode State

/-- Verbatim() (43_algorithms.md R192). -/
def State.verbatimFrame (s : State) : FrameResult :=
  if s.cursor + s.frameByteCount.toNat > s.streamLength then .error .truncatedStream
  else .ok ((s.copyFrom 0 (Memory.readBytes s.stream s.cursor s.frameByteCount.toNat)).advance
    s.frameByteCount.toNat)

/-- The token loop of RunLengthRaster() and RunLengthColumn() (R197, R205). The first argument is how
many stream bytes remain: each round consumes one (70_reset_and_hazards.md R271). -/
def tokenLoop (pixel : State → Nat → Bool → Except ResultCode State) : Nat → Nat → State → FrameResult
  | remaining, i, s =>
    if i < s.frameBitCount.toNat then
      match remaining with
      | 0 => .error .truncatedStream
      | remaining + 1 =>
        match paint pixel (tokenColor (s.streamByte s.cursor)) (tokenLength (s.streamByte s.cursor)) i
            (s.advance 1) with
        | .ok t => tokenLoop pixel remaining (i + tokenLength (s.streamByte s.cursor)) t
        | .error e => .error e
    else .ok s

/-- RunLengthRaster() (R197). -/
def State.rasterFrame (s : State) : FrameResult := tokenLoop rasterPixel (s.streamLength - s.cursor) 0 s

/-- RunLengthColumn() (R205). -/
def State.columnFrame (s : State) : FrameResult := tokenLoop columnPixel (s.streamLength - s.cursor) 0 s

/-- Step 3 of R171: the algorithm that `current_algorithm` names. -/
def State.algorithmFrame (s : State) : FrameResult :=
  match Algorithm.ofCode s.currentAlgorithm.toNat with
  | some .verbatim => s.verbatimFrame
  | some .identical => .ok s
  | some .rlRaster => s.rasterFrame
  | some .rlColumn => s.columnFrame
  | some .reserved4 => .ok s
  | some .reserved5 => .ok s
  | some .reserved6 => .ok s
  | some .reserved7 => .ok s
  | none => .error .unknownAlgorithm

/-- Steps 1 and 2 of R171: the selector fetch or the repeat. -/
def State.selectorOrRepeat (s : State) : FrameResult :=
  if s.remainingRepeats = 0 then
    if s.cursor ≥ s.streamLength then .error .truncatedStream
    else
      .ok { s with
        cursor := s.cursor + 1
        currentAlgorithm := BitVec.ofNat 3 (selectorAlg (s.streamByte s.cursor))
        remainingRepeats := BitVec.ofNat 8 (selectorRep (s.streamByte s.cursor)) }
  else .ok s.countRepeat

/-- DECODE_NEXT in `READY` (R171): the state it leaves and the result it hands over. An error anywhere
ends it (R174). -/
def State.decodeNextReady (s : State) : State :=
  match s.selectorOrRepeat with
  | .error e => s.raise e
  | .ok t =>
    match t.algorithmFrame with
    | .error e => s.raise e
    | .ok u => u.completeFrame

/-- DECODE_NEXT (R161, R171). -/
def State.decodeNext (s : State) : Host.Outcome State Fault Refusal :=
  match s.engineState with
  | .unconstructed => .refused .unconstructed
  | .faulted => .next (s.respond (.failed s.lastError))
  | .ready => .next s.decodeNextReady

end Sys2Proof.Machine
end

