-- ==== Sys2Proof/Safety.lean ====
section
/-! DEFINITION. What holds in every state the engine can be in, and what a safe step is. -/

namespace Sys2Proof.Machine

open Sys2Proof

/-- The geometry registers agree with the header (40_header_parser.md R123). -/
def State.geometryOk (s : State) : Prop :=
  s.frameBitCount.toNat = s.width.toNat * s.height.toNat ∧
  s.frameByteCount.toNat = ceil8 (s.width.toNat * s.height.toNat)

/-- The operation in progress agrees with the registers: it is a DECODE_NEXT of a READY engine, at a
position inside the frame, of the algorithm that `current_algorithm` names (30_encoding.md R101); the
bytes a Verbatim payload still needs are there (43_algorithms.md R193). -/
def State.workOk (s : State) : Prop :=
  match s.work with
  | .idle => True
  | .raster i => s.engineState = .ready ∧ s.requests.head? = some .decodeNext ∧
      s.currentAlgorithm = 2 ∧ i < s.frameBitCount.toNat
  | .column i => s.engineState = .ready ∧ s.requests.head? = some .decodeNext ∧
      s.currentAlgorithm = 3 ∧ i < s.frameBitCount.toNat
  | .verbatim k => s.engineState = .ready ∧ s.requests.head? = some .decodeNext ∧
      s.currentAlgorithm = 0 ∧ k < s.frameByteCount.toNat ∧
      s.cursor + (s.frameByteCount.toNat - k) ≤ s.streamLength

/-- `last_error` agrees with `engine_state` (10_state.md R44, R45, 60_exceptions.md R242): `OK` in
`READY`, an error kind of DECODE_NEXT in `FAULTED`, never one of DECODE_NEXT in `UNCONSTRUCTED`. -/
def State.errorOk (s : State) : Prop :=
  match s.engineState with
  | .unconstructed => s.lastError = .ok ∨ s.lastError = .truncatedHeader
  | .ready => s.lastError = .ok
  | .faulted => s.lastError = .truncatedStream ∨ s.lastError = .bitIndexOutOfRange

/-- The invariant of the engine. -/
structure State.Inv (s : State) : Prop where
  /-- The stream is in canonical form. -/
  stream_wf : Memory.wf s.stream = true
  /-- The frame buffer is in canonical form. -/
  fb_wf : Memory.wf s.fb = true
  /-- The stream space ends at `L` (20_memory.md R60). -/
  stream_below : Memory.below s.stream s.streamLength = true
  /-- The frame buffer space ends at `frame_byte_count` (20_memory.md R63, 10_state.md R49). -/
  fb_below : Memory.below s.fb s.frameByteCount.toNat = true
  /-- `remaining_repeats <= 31` (10_state.md R50). -/
  repeats_le : s.remainingRepeats.toNat ≤ 31
  /-- While a decoder instance exists its geometry is that of its header (R123, R49). -/
  geometry : s.engineState ≠ .unconstructed → s.geometryOk
  /-- `5 <= cursor <= L` in `READY` (10_state.md R48). -/
  cursor_bounds : s.engineState = .ready → 5 ≤ s.cursor ∧ s.cursor ≤ s.streamLength
  /-- The operation in progress agrees with the registers. -/
  work : s.workOk
  /-- `last_error` agrees with `engine_state`. -/
  error : s.errorOk

/-! ### The terms of the statements -/

/-- The engine reads a selector next: a DECODE_NEXT in `READY` and `AwaitingSelector` (R162). -/
def State.atSelector (s : State) : Prop :=
  s.work = .idle ∧ s.requests.head? = some .decodeNext ∧ s.engineState = .ready ∧ s.remainingRepeats = 0

/-- The engine reads a token of algorithm 2 next, at count `i` (43_algorithms.md R197). -/
def State.atRasterToken (s : State) (i : Nat) : Prop := s.work = .raster i ∧ s.engineState = .ready

/-- The engine reads a token of algorithm 3 next, at count `i` (43_algorithms.md R205). -/
def State.atColumnToken (s : State) (i : Nat) : Prop := s.work = .column i ∧ s.engineState = .ready

/-- The engine reads byte `k` of a Verbatim payload next (43_algorithms.md R192). -/
def State.atPayloadByte (s : State) (k : Nat) : Prop := s.work = .verbatim k ∧ s.engineState = .ready

/-- A DECODE_NEXT of a READY engine is to be performed and has not begun. -/
def State.atDecodeNext (s : State) : Prop :=
  s.work = .idle ∧ s.requests.head? = some .decodeNext ∧ s.engineState = .ready

/-- The registers that CONSTRUCT alone writes are the same (10_state.md R49, 20_memory.md R61). -/
def State.sameInstance (s t : State) : Prop :=
  t.width = s.width ∧ t.height = s.height ∧ t.frameRate = s.frameRate ∧
  t.frameBitCount = s.frameBitCount ∧ t.frameByteCount = s.frameByteCount ∧
  t.streamLength = s.streamLength ∧ t.stream = s.stream ∧ t.debugLevel = s.debugLevel

/-- `t` is `s` after `raise e` in DECODE_NEXT (60_exceptions.md R236, R238): what is written, and what is
kept. Nothing is said of `FB`, `cursor`, `current_algorithm` and `remaining_repeats`. -/
def State.failedWith (s t : State) (e : ResultCode) : Prop :=
  t.engineState = .faulted ∧ t.lastError = e ∧ t.work = .idle ∧ t.requests = s.requests.tail ∧
  t.results = .failed e :: s.results ∧ t.frameIndex = s.frameIndex ∧ s.sameInstance t

/-- A step that does not stop with a fault. -/
def StepSafe (s : State) : Prop := ∀ f, step s ≠ .fault f

/-- The requests the spec has a model refuse: DECODE_NEXT and READ_GEOMETRY while no decoder instance
exists (42_run_state_machine.md R161, 40_header_parser.md R132). -/
def State.needsInstance (s : State) : Prop :=
  s.engineState = .unconstructed ∧
    (s.requests.head? = some .decodeNext ∨ ∃ name, s.requests.head? = some (.readGeometry name))

end Sys2Proof.Machine
end

