-- ==== Sys2Proof/Certificates/Slice0/Obligations.lean ====
section
/-! DEFINITION. The statements for the provers. -/

open Sys2Proof Sys2Proof.Machine

/-! ### Encoding -/

/-- 30_encoding.md R91, R93, R96, R106: no operand of a well-formed unit is lost in its bytes. -/
def Obligations.DecodeOfEncodeIsTheUnit : Prop :=
  ∀ (i : Instr) (rest : List Byte), i.wf = true → decode i.context (encode i ++ rest) = .ok i rest

/-- R93, R94, R96, R101: each byte sequence has one reading in a context, of a well-formed unit. -/
def Obligations.EncodeOfDecodeIsTheBytes : Prop :=
  ∀ (c : Context) (bs rest : List Byte) (i : Instr), decode c bs = .ok i rest →
    i.wf = true ∧ i.context = c ∧ encode i ++ rest = bs

/-- Words written out from the encoding tables of 30_encoding.md R90, R93, R96, R99, and 95_test_vectors.md
2.3 and 2.4. -/
def Obligations.WordsDecodeAsTheTablesSay : Prop :=
  decode .header [0x01, 0x02, 0x00, 0x05, 0x19] = .ok (.header 258 5 25) [] ∧
  decode .selector [0b00011111] = .ok (.selVerbatim 31) [] ∧
  decode .selector [0b00100011] = .ok (.selIdentical 3) [] ∧
  decode .selector [0b01000000] = .ok (.selRlRaster 0) [] ∧
  decode .selector [0b01111111] = .ok (.selRlColumn 31) [] ∧
  decode .selector [0b10011111] = .ok (.selReserved4 31) [] ∧
  decode .selector [0b10100000] = .ok (.selReserved5 0) [] ∧
  decode .selector [0b11000010] = .ok (.selReserved6 2) [] ∧
  decode .selector [0b11100001] = .ok (.selReserved7 1) [] ∧
  decode .raster [0b01000111] = .ok (.tokRaster false 72) [] ∧
  decode .column [0b10001000] = .ok (.tokColumn true 9) [] ∧
  decode .verbatim [0b10100101] = .ok (.bytes 0xA5) []

/-- R93, R94, R103: every byte at a selector position is the selector of the algorithm its top three
bits number, with its low five bits as the repeat count. -/
def Obligations.EveryByteIsASelector : Prop :=
  ∀ (b : Byte) (rest : List Byte),
    (b.toNat / 32 = 0 → decode .selector (b :: rest) = .ok (.selVerbatim (b.toNat % 32)) rest) ∧
    (b.toNat / 32 = 1 → decode .selector (b :: rest) = .ok (.selIdentical (b.toNat % 32)) rest) ∧
    (b.toNat / 32 = 2 → decode .selector (b :: rest) = .ok (.selRlRaster (b.toNat % 32)) rest) ∧
    (b.toNat / 32 = 3 → decode .selector (b :: rest) = .ok (.selRlColumn (b.toNat % 32)) rest) ∧
    (b.toNat / 32 = 4 → decode .selector (b :: rest) = .ok (.selReserved4 (b.toNat % 32)) rest) ∧
    (b.toNat / 32 = 5 → decode .selector (b :: rest) = .ok (.selReserved5 (b.toNat % 32)) rest) ∧
    (b.toNat / 32 = 6 → decode .selector (b :: rest) = .ok (.selReserved6 (b.toNat % 32)) rest) ∧
    (b.toNat / 32 = 7 → decode .selector (b :: rest) = .ok (.selReserved7 (b.toNat % 32)) rest)

/-- R97 and R98: a token's length is its low seven bits plus one, never 0; its colour is bit 7. -/
def Obligations.TokenLengthIsLowSevenBitsPlusOne : Prop :=
  ∀ (t : Byte) (rest : List Byte), ∃ (color : Bool) (len : Nat),
    decode .raster (t :: rest) = .ok (.tokRaster color len) rest ∧
    decode .column (t :: rest) = .ok (.tokColumn color len) rest ∧
    color = decide (t.toNat / 128 = 1) ∧ len = t.toNat % 128 + 1 ∧ len ≠ 0 ∧
    (t = 0x00 ∨ t = 0x80 → len = 1) ∧ (t = 0x7F ∨ t = 0xFF → len = 128)

/-- R107: `RUN c, n` is tokens of colour `c`, each of 1 to 128 pixels, `n` pixels in all, as few tokens
as 128 pixels each allow. -/
def Obligations.RunExpandsIntoTokensOfItsLength : Prop :=
  ∀ (color : Bool) (n : Nat), ∃ lens : List Nat,
    expandRun .tokRaster color n = lens.map (.tokRaster color) ∧
    expandRun .tokColumn color n = lens.map (.tokColumn color) ∧
    lens.sum = n ∧ (∀ len ∈ lens, 1 ≤ len ∧ len ≤ 128) ∧ lens.length = (n + 127) / 128

/-! ### Fetch and reset -/

/-- R101, 42_run_state_machine.md R162, 40_header_parser.md R122: a step runs the unit that the byte at
`cursor`, or the data of a CONSTRUCT, decodes to in the context of the state, and adds nothing to it. -/
def Obligations.StepRunsTheDecodedUnit : Prop :=
  (∀ (s : State) (c : Context) (i : Instr), s.context = some c → c ≠ .header → s.cursor < s.streamLength →
    decode c [s.streamByte s.cursor] = .ok i [] → step s = exec i s) ∧
  (∀ (s : State) (data rest : List Byte) (dbg : BitVec 8) (ops : List HostOp) (i : Instr), s.work = .idle →
    s.requests = .construct data dbg :: ops → decode .header data = .ok i rest → step s = exec i s)

/-- The model's own (log 7): a word of the opcode table that is placed where the next step reads is the
unit that the next step runs, in every state whose stream is in canonical form. -/
def Obligations.PlacedWordIsTheNextUnit : Prop :=
  ∀ (s : State) (nbits w : Nat) (i : Instr), Memory.wf s.stream = true → decodeTableWord nbits w = some i →
    step (s.withFetchWord nbits w) = exec i (s.withFetchWord nbits w)

/-- 70_reset_and_hazards.md R260 and 60_exceptions.md R249, and the model's own (log 2): power-on is
`UNCONSTRUCTED`; with nothing requested the engine holds its state, in every state. -/
def Obligations.NothingRequestedNothingChanges : Prop :=
  State.reset.engineState = .unconstructed ∧ State.reset.requests = [] ∧
  ∀ s : State, s.work = .idle → s.requests = [] → step s = .next s

/-! ### Memory and the frame buffer primitives -/

/-- The model's own (log 8): two canonical memories that read alike are equal. -/
def Obligations.CanonicalMemoriesThatReadAlikeAreEqual : Prop :=
  ∀ m m' : Memory, Memory.wf m = true → Memory.wf m' = true → (∀ a, Memory.read m a = Memory.read m' a) → m = m'

/-- 41_frame_buffer.md R141, R142: SetBit writes linear bit `j` alone, and no register; at or above
`frame_bit_count` it writes nothing and fails with `BitIndexOutOfRange`. -/
def Obligations.SetBitWritesOneBitOrFails : Prop :=
  ∀ (s : State) (j : Nat) (v : Bool), Memory.wf s.fb = true →
    (s.frameBitCount.toNat ≤ j → s.setBit j v = .error .bitIndexOutOfRange) ∧
    (j < s.frameBitCount.toNat → ∃ t, s.setBit j v = .ok t ∧
      (∀ j', t.frameBit j' = if j' = j then v else s.frameBit j') ∧
      (∀ k, k ≠ j / 8 → t.frameByte k = s.frameByte k) ∧
      (∀ a, t.streamByte a = s.streamByte a) ∧ t = { s with fb := t.fb })

/-- R143, R144: SetPixel checks the linear index alone; a column at or past `width` whose linear index is
in range is the pixel `(c mod width, r + c div width)`. -/
def Obligations.SetPixelChecksTheLinearIndexAlone : Prop :=
  ∀ (s : State) (c r : Nat) (v : Bool),
    s.setPixel c r v = s.setBit (r * s.width.toNat + c) v ∧
    s.setPixel c r v = s.setPixel (c % s.width.toNat) (r + c / s.width.toNat) v

/-- R146: Snapshot is every byte of the frame buffer, in order, padding included. -/
def Obligations.SnapshotIsEveryFrameByte : Prop :=
  ∀ s : State, s.snapshot.length = s.frameByteCount.toNat ∧
    ∀ k, k < s.frameByteCount.toNat → s.snapshot[k]? = some (s.frameByte k)

/-- R145, 43_algorithms.md R192, R194: CopyFrom of `frame_byte_count` bytes makes the frame buffer equal
to them byte for byte, padding included, and writes nothing else. -/
def Obligations.CopyFromIsAByteForByteCopy : Prop :=
  ∀ (s : State) (p : List Byte), Memory.wf s.fb = true → p.length = s.frameByteCount.toNat →
    (s.copyFrom 0 p).snapshot = p ∧ (∀ k, p.length ≤ k → (s.copyFrom 0 p).frameByte k = s.frameByte k) ∧
    s.copyFrom 0 p = { s with fb := (s.copyFrom 0 p).fb }

/-! ### CONSTRUCT and READ_GEOMETRY -/

/-- 40_header_parser.md R130: `.header` completes whenever a CONSTRUCT is to be performed, in whatever
state the engine is (R131), and writes every register of the engine. -/
def Obligations.HeaderWritesEveryRegister : Prop :=
  ∀ (s : State) (w h : BitVec 16) (fr dbg : BitVec 8) (data : List Byte) (ops : List HostOp),
    s.work = .idle → s.requests = .construct data dbg :: ops →
    exec (.header w h fr) s = .next
      { width := w, height := h, frameRate := fr,
        frameBitCount := BitVec.ofNat 32 (w.toNat * h.toNat),
        frameByteCount := BitVec.ofNat 30 ((w.toNat * h.toNat + 7) / 8),
        streamLength := data.length, stream := Memory.ofBytes 0 data, fb := [], cursor := 5,
        currentAlgorithm := 0, remainingRepeats := 0, frameIndex := 0, debugLevel := dbg,
        engineState := .ready, lastError := .ok, work := .idle, requests := ops,
        results := .constructed :: s.results, freeDraws := s.freeDraws }

/-- R122, R123, R125 to R128: what a CONSTRUCT of 5 bytes or more leaves, read from the bytes supplied.
The two clauses about every stream address and every frame-buffer address also read at and above `L` and
`frame_byte_count`, where the spec has no byte (20_memory.md R60, R63); that they read 0x00 there is the
model's choice (log 8). -/
def Obligations.ConstructReadsTheHeaderAndResets : Prop :=
  ∀ (s : State) (b0 b1 b2 b3 b4 : Byte) (tail : List Byte) (dbg : BitVec 8) (ops : List HostOp),
    s.work = .idle → s.requests = .construct (b0 :: b1 :: b2 :: b3 :: b4 :: tail) dbg :: ops →
    ∃ t, step s = .next t ∧
      t.width.toNat = b0.toNat * 256 + b1.toNat ∧ t.height.toNat = b2.toNat * 256 + b3.toNat ∧
      t.frameRate = b4 ∧
      t.frameBitCount.toNat = t.width.toNat * t.height.toNat ∧
      t.frameByteCount.toNat = (t.width.toNat * t.height.toNat + 7) / 8 ∧
      t.streamLength = 5 + tail.length ∧
      (∀ a, t.streamByte a = (b0 :: b1 :: b2 :: b3 :: b4 :: tail).getD a 0) ∧
      (∀ k, t.frameByte k = 0) ∧
      t.cursor = 5 ∧ t.currentAlgorithm = 0 ∧ t.remainingRepeats = 0 ∧ t.runState = .awaitingSelector ∧
      t.frameIndex = 0 ∧ t.debugLevel = dbg ∧ t.engineState = .ready ∧ t.lastError = .ok ∧
      t.work = .idle ∧ t.requests = ops ∧ t.results = .constructed :: s.results

/-- R121, 60_exceptions.md R231: fewer than 5 bytes leave no decoder instance and return
`TruncatedHeader`; 5 bytes are enough. -/
def Obligations.ConstructOfFewerThanFiveBytesFails : Prop :=
  ∀ (s : State) (data : List Byte) (dbg : BitVec 8) (ops : List HostOp), s.work = .idle →
    s.requests = .construct data dbg :: ops →
    (data.length < 5 → ∃ t, step s = .next t ∧ t.engineState = .unconstructed ∧
      t.lastError = .truncatedHeader ∧ t.work = .idle ∧ t.requests = ops ∧
      t.results = .failed .truncatedHeader :: s.results) ∧
    (5 ≤ data.length → ∃ t, step s = .next t ∧ t.engineState = .ready ∧ t.lastError = .ok ∧
      t.results = .constructed :: s.results)

/-- R132: READ_GEOMETRY answers the register its name names and changes nothing, in `READY` and in
`FAULTED`. -/
def Obligations.ReadGeometryAnswersItsRegister : Prop :=
  ∀ (s : State) (name : Geometry) (ops : List HostOp), s.work = .idle →
    s.requests = .readGeometry name :: ops → s.engineState ≠ .unconstructed →
    step s = .next { s with
      requests := ops
      results := .value (match name with
        | .width => s.width.toNat
        | .height => s.height.toNat
        | .frameRate => s.frameRate.toNat
        | .frameByteCount => s.frameByteCount.toNat
        | .frameBitCount => s.frameBitCount.toNat
        | .framesDecodedSoFar => s.frameIndex.toNat) :: s.results }

/-- R132, 42_run_state_machine.md R161: without a decoder instance DECODE_NEXT and READ_GEOMETRY are
refused. -/
def Obligations.UnconstructedRefusesDecodeAndRead : Prop :=
  ∀ s : State, s.work = .idle → s.needsInstance → step s = .refused .unconstructed

/-! ### Selectors -/

/-- 42_run_state_machine.md R164, 43_algorithms.md R196, R214: a selector of algorithm 1 or 4 to 7 is
consumed, sets the run, and completes a frame without mutation and without a payload byte. -/
def Obligations.ZeroCostSelectorsCompleteAFrame : Prop :=
  ∀ (s : State) (rep : Nat), s.atSelector →
    (∀ (i : Instr) (alg : BitVec 3),
      (i, alg) ∈ [(Instr.selIdentical rep, 1#3), (.selReserved4 rep, 4#3), (.selReserved5 rep, 5#3),
        (.selReserved6 rep, 6#3), (.selReserved7 rep, 7#3)] →
      exec i s = .next { s with
        cursor := s.cursor + 1
        currentAlgorithm := alg
        remainingRepeats := BitVec.ofNat 8 rep
        frameIndex := s.frameIndex + 1
        requests := s.requests.tail
        results := .frame s.snapshot (decide (s.cursor + 1 < s.streamLength)) :: s.results })

/-- R164, 43_algorithms.md R192, R195: a Verbatim selector whose payload is there is consumed, sets the
run and goes on to the payload; with an empty frame it completes the frame. -/
def Obligations.VerbatimSelectorStartsThePayload : Prop :=
  ∀ (s : State) (rep : Nat), s.atSelector →
    s.cursor + 1 + s.frameByteCount.toNat ≤ s.streamLength →
    (0 < s.frameByteCount.toNat → exec (.selVerbatim rep) s = .next { s with
      cursor := s.cursor + 1
      currentAlgorithm := 0
      remainingRepeats := BitVec.ofNat 8 rep
      work := .verbatim 0 }) ∧
    (s.frameByteCount.toNat = 0 → exec (.selVerbatim rep) s = .next { s with
      cursor := s.cursor + 1
      currentAlgorithm := 0
      remainingRepeats := BitVec.ofNat 8 rep
      frameIndex := s.frameIndex + 1
      requests := s.requests.tail
      results := .frame [] (decide (s.cursor + 1 < s.streamLength)) :: s.results })

/-- R164, 43_algorithms.md R197, R202, R205, R210: a run-length selector is consumed, sets the run and
goes on to the tokens at count 0; with an empty frame it reads no token and completes the frame. -/
def Obligations.RunLengthSelectorsStartAtCountZero : Prop :=
  ∀ (s : State) (rep : Nat), s.atSelector →
    (0 < s.frameBitCount.toNat →
      exec (.selRlRaster rep) s = .next { s with
        cursor := s.cursor + 1
        currentAlgorithm := 2
        remainingRepeats := BitVec.ofNat 8 rep
        work := .raster 0 } ∧
      exec (.selRlColumn rep) s = .next { s with
        cursor := s.cursor + 1
        currentAlgorithm := 3
        remainingRepeats := BitVec.ofNat 8 rep
        work := .column 0 }) ∧
    (s.frameBitCount.toNat = 0 →
      exec (.selRlRaster rep) s = .next { s with
        cursor := s.cursor + 1
        currentAlgorithm := 2
        remainingRepeats := BitVec.ofNat 8 rep
        frameIndex := s.frameIndex + 1
        requests := s.requests.tail
        results := .frame s.snapshot (decide (s.cursor + 1 < s.streamLength)) :: s.results } ∧
      exec (.selRlColumn rep) s = .next { s with
        cursor := s.cursor + 1
        currentAlgorithm := 3
        remainingRepeats := BitVec.ofNat 8 rep
        frameIndex := s.frameIndex + 1
        requests := s.requests.tail
        results := .frame s.snapshot (decide (s.cursor + 1 < s.streamLength)) :: s.results })

/-- The frame of the selectors (41_frame_buffer.md R147, 10_state.md R49, 20_memory.md R61): whichever
selector runs and however its frame begins, no byte of the stream and no register that CONSTRUCT alone
writes changes; and no byte of the frame buffer changes unless an error is raised, after which the frame
buffer is unspecified (60_exceptions.md R238). -/
def Obligations.SelectorsStoreNothing : Prop :=
  ∀ (a : Algorithm) (rep : Nat) (s t : State), exec (a.selector rep) s = .next t →
    s.sameInstance t ∧ (∀ x, t.streamByte x = s.streamByte x) ∧
    (t.engineState = .ready → ∀ k, t.frameByte k = s.frameByte k)

/-- R193: a Verbatim selector whose frame needs more bytes than remain raises `TruncatedStream`, before
anything is copied. -/
def Obligations.VerbatimSelectorWithoutItsPayloadFails : Prop :=
  ∀ (s : State) (rep : Nat), s.atSelector → s.streamLength < s.cursor + 1 + s.frameByteCount.toNat →
    ∃ t, exec (.selVerbatim rep) s = .next t ∧ s.failedWith t .truncatedStream

/-- 42_run_state_machine.md R163, 43_algorithms.md R200, R208: a selector or a token that is needed at or
past the end of the stream is `TruncatedStream`. -/
def Obligations.UnitPastTheEndIsTruncatedStream : Prop :=
  ∀ s : State, s.streamLength ≤ s.cursor →
    (s.atSelector ∨ (∃ i, s.atRasterToken i) ∨ (∃ i, s.atColumnToken i)) →
    ∃ t, step s = .next t ∧ s.failedWith t .truncatedStream

/-- R165: an in-run frame counts down and reads no selector: `remaining_repeats` is one less,
`current_algorithm`, `cursor` and every memory are as before when its payload is still to be read, or its
frame is complete. An in-run Verbatim frame whose payload is not all there raises `TruncatedStream`
instead (43_algorithms.md R193); no other in-run frame fails before it has read a token. -/
def Obligations.InRunFrameReadsNoSelector : Prop :=
  ∀ s : State, s.atDecodeNext → s.remainingRepeats ≠ 0 →
    (s.currentAlgorithm ≠ 0 ∨ s.cursor + s.frameByteCount.toNat ≤ s.streamLength →
      ∃ t, step s = .next t ∧ t.engineState = .ready ∧
        t.remainingRepeats.toNat = s.remainingRepeats.toNat - 1 ∧
        t.currentAlgorithm = s.currentAlgorithm ∧ t.cursor = s.cursor ∧
        (∀ k, t.frameByte k = s.frameByte k) ∧ s.sameInstance t) ∧
    (s.currentAlgorithm = 0 → s.streamLength < s.cursor + s.frameByteCount.toNat →
      ∃ t, step s = .next t ∧ s.failedWith t .truncatedStream)

/-- R166, R172, R177, 43_algorithms.md R214: a selector of a zero-cost algorithm with repeat count `rep`
yields exactly `rep + 1` frames, each the frame buffer unchanged and each with the `has_more` of the
byte after the selector, from one stream byte; after them a selector is awaited. -/
def Obligations.ZeroCostRunYieldsRepPlusOneFrames : Prop :=
  ∀ (s : State) (ops : List HostOp), s.atSelector → s.cursor < s.streamLength →
    (s.streamByte s.cursor).toNat / 32 ∈ [1, 4, 5, 6, 7] →
    s.requests = List.replicate ((s.streamByte s.cursor).toNat % 32 + 1) .decodeNext ++ ops →
    ∃ t, Sys2Proof.core.run ((s.streamByte s.cursor).toNat % 32 + 1) s = .next t ∧
      t.results = List.replicate ((s.streamByte s.cursor).toNat % 32 + 1)
        (.frame s.snapshot (decide (s.cursor + 1 < s.streamLength))) ++ s.results ∧
      t.requests = ops ∧ t.cursor = s.cursor + 1 ∧ t.remainingRepeats = 0 ∧ t.fb = s.fb ∧
      t.frameIndex = s.frameIndex + BitVec.ofNat 64 ((s.streamByte s.cursor).toNat % 32 + 1)

/-! ### Payloads -/

/-- 43_algorithms.md R191, R197, R199: a token of algorithm 2 that fits is consumed and writes linear bits
`i` to `i + len - 1` with its colour and no other; the frame goes on at `i + len`, or is complete at
`frame_bit_count`. -/
def Obligations.RasterTokenWritesItsPixels : Prop :=
  ∀ (s : State) (i len : Nat) (color : Bool), Memory.wf s.fb = true → s.atRasterToken i →
    i + len ≤ s.frameBitCount.toNat →
    ∃ t, exec (.tokRaster color len) s = .next t ∧
      (∀ j, t.frameBit j = if i ≤ j ∧ j < i + len then color else s.frameBit j) ∧
      (∀ k, (∀ j, i ≤ j → j < i + len → j / 8 ≠ k) → t.frameByte k = s.frameByte k) ∧
      (i + len < s.frameBitCount.toNat →
        t = { s with fb := t.fb, cursor := s.cursor + 1, work := .raster (i + len) }) ∧
      (i + len = s.frameBitCount.toNat →
        t = { s with
          fb := t.fb, cursor := s.cursor + 1, work := .idle, frameIndex := s.frameIndex + 1,
          requests := s.requests.tail,
          results := .frame t.snapshot (decide (s.cursor + 1 < s.streamLength)) :: s.results })

/-- R191, R205, R206, R207: a token of algorithm 3 that fits is consumed and writes the pixels at column
`c div height`, row `c mod height`, for the counts `c` from `i` to `i + len - 1`, and no other bit. -/
def Obligations.ColumnTokenWritesItsPixels : Prop :=
  ∀ (s : State) (i len : Nat) (color : Bool), Memory.wf s.fb = true → s.geometryOk → s.atColumnToken i →
    i + len ≤ s.frameBitCount.toNat →
    ∃ t, exec (.tokColumn color len) s = .next t ∧
      (∀ c, i ≤ c → c < i + len →
        t.frameBit ((c % s.height.toNat) * s.width.toNat + c / s.height.toNat) = color) ∧
      (∀ j, (∀ c, i ≤ c → c < i + len → j ≠ (c % s.height.toNat) * s.width.toNat + c / s.height.toNat) →
        t.frameBit j = s.frameBit j) ∧
      (∀ k, (∀ c, i ≤ c → c < i + len →
        ((c % s.height.toNat) * s.width.toNat + c / s.height.toNat) / 8 ≠ k) → t.frameByte k = s.frameByte k) ∧
      (i + len < s.frameBitCount.toNat →
        t = { s with fb := t.fb, cursor := s.cursor + 1, work := .column (i + len) }) ∧
      (i + len = s.frameBitCount.toNat →
        t = { s with
          fb := t.fb, cursor := s.cursor + 1, work := .idle, frameIndex := s.frameIndex + 1,
          requests := s.requests.tail,
          results := .frame t.snapshot (decide (s.cursor + 1 < s.streamLength)) :: s.results })

/-- R203, R209, 60_exceptions.md R233: a token that carries the count past `frame_bit_count` raises
`BitIndexOutOfRange`. -/
def Obligations.OvershootingTokenFails : Prop :=
  ∀ (s : State) (i len : Nat) (color : Bool), 1 ≤ len → s.frameBitCount.toNat < i + len →
    (s.atRasterToken i → ∃ t, exec (.tokRaster color len) s = .next t ∧ s.failedWith t .bitIndexOutOfRange) ∧
    (s.atColumnToken i → ∃ t, exec (.tokColumn color len) s = .next t ∧ s.failedWith t .bitIndexOutOfRange)

/-- R192, 41_frame_buffer.md R145: a Verbatim payload byte is consumed and stored at byte `k` of the frame
buffer alone; after the last one the frame is complete. -/
def Obligations.PayloadByteIsStored : Prop :=
  ∀ (s : State) (k : Nat) (b : Byte), Memory.wf s.fb = true → s.atPayloadByte k → k < s.frameByteCount.toNat →
    ∃ t, exec (.bytes b) s = .next t ∧
      (∀ k', t.frameByte k' = if k' = k then b else s.frameByte k') ∧
      (k + 1 < s.frameByteCount.toNat →
        t = { s with fb := t.fb, cursor := s.cursor + 1, work := .verbatim (k + 1) }) ∧
      (k + 1 = s.frameByteCount.toNat →
        t = { s with
          fb := t.fb, cursor := s.cursor + 1, work := .idle, frameIndex := s.frameIndex + 1,
          requests := s.requests.tail,
          results := .frame t.snapshot (decide (s.cursor + 1 < s.streamLength)) :: s.results })

/-- The model's own (log 9, log 13), 30_encoding.md R101: a unit outside its context is refused by name,
and a payload byte past the frame buffer faults by name. -/
def Obligations.UnitOutsideItsContextIsRefused : Prop :=
  (∀ (i : Instr) (s : State), s.context ≠ some i.context → exec i s = .refused .outOfContext) ∧
  (∀ (b : Byte) (s : State) (k : Nat), s.atPayloadByte k → s.frameByteCount.toNat ≤ k →
    exec (.bytes b) s = .fault (.frameByteOutOfRange k))

/-! ### Whole frames -/

/-- 42_run_state_machine.md R171, 70_reset_and_hazards.md R271: the steps of a DECODE_NEXT, one stream unit
each (the model's choice, log 3), reach exactly what the atomic transaction gives, in at most two more
steps than stream bytes remain. On an error the free values of both sides are equal only because they
share a draw number (log 4). -/
def Obligations.StepsPerformTheAtomicDecodeNext : Prop :=
  ∀ s : State, s.atDecodeNext →
    ∃ n, 1 ≤ n ∧ n ≤ s.streamLength - s.cursor + 2 ∧ Sys2Proof.core.run n s = s.decodeNext

/-- 20_memory.md R72, 10_state.md R46: while an operation is in progress the host sees nothing of it: no
result, no accessor and no request has changed. -/
def Obligations.NothingShowsBeforeTheOperationCompletes : Prop :=
  ∀ s t : State, step s = .next t → t.work ≠ .idle →
    t.results = s.results ∧ t.requests = s.requests ∧ t.lastError = s.lastError ∧
    (∀ name, t.geometry name = s.geometry name)

/-- R172: what a successful DECODE_NEXT does to the run state. -/
def Obligations.RunStateTransitionsOfDecodeNext : Prop :=
  ∀ s t : State, s.engineState = .ready → s.decodeNext = .next t → t.engineState = .ready →
    (s.runState = .awaitingSelector → s.cursor < s.streamLength ∧
      t.currentAlgorithm.toNat = (s.streamByte s.cursor).toNat / 32 ∧
      t.runState = if (s.streamByte s.cursor).toNat % 32 > 0 then .inRun ((s.streamByte s.cursor).toNat % 32)
        else .awaitingSelector) ∧
    (∀ r0, s.runState = .inRun r0 → t.currentAlgorithm = s.currentAlgorithm ∧
      t.runState = if r0 > 1 then .inRun (r0 - 1) else .awaitingSelector)

/-- 43_algorithms.md R192, R193, R194, R195: a Verbatim frame is its payload, byte for byte with its
padding bits, whatever the frame before it was, and needs all of it: with fewer bytes left it fails. -/
def Obligations.VerbatimFrameIsItsPayload : Prop :=
  ∀ s : State, Memory.wf s.fb = true →
    (s.streamLength < s.cursor + s.frameByteCount.toNat → s.verbatimFrame = .error .truncatedStream) ∧
    (s.cursor + s.frameByteCount.toNat ≤ s.streamLength →
      ∃ t, s.verbatimFrame = .ok t ∧ t.cursor = s.cursor + s.frameByteCount.toNat ∧
        t.snapshot.length = s.frameByteCount.toNat ∧
        (∀ k, k < s.frameByteCount.toNat → t.snapshot[k]? = some (s.streamByte (s.cursor + k))) ∧
        t = { s with fb := t.fb, cursor := t.cursor })

/-- R201, R211: the pixels of a run-length frame depend on its tokens alone: over any two frame buffers
both algorithms consume the same bytes and leave the same pixel bits. -/
def Obligations.RunLengthPixelsIgnoreThePreviousFrame : Prop :=
  ∀ (s t : State) (m : Memory), Memory.wf s.fb = true → Memory.wf m = true → s.geometryOk →
    (s.rasterFrame = .ok t → ∃ u, State.rasterFrame { s with fb := m } = .ok u ∧ u.cursor = t.cursor ∧
      ∀ j, j < s.frameBitCount.toNat → u.frameBit j = t.frameBit j) ∧
    (s.columnFrame = .ok t → ∃ u, State.columnFrame { s with fb := m } = .ok u ∧ u.cursor = t.cursor ∧
      ∀ j, j < s.frameBitCount.toNat → u.frameBit j = t.frameBit j)

/-- R204, R211: a run-length frame writes no padding bit. -/
def Obligations.RunLengthFramesKeepThePadding : Prop :=
  ∀ s t : State, Memory.wf s.fb = true → (s.rasterFrame = .ok t ∨ s.columnFrame = .ok t) →
    ∀ j, s.frameBitCount.toNat ≤ j → t.frameBit j = s.frameBit j

/-- R206, R211: the map of algorithm 3 from counts to linear bits is a bijection of the frame. -/
def Obligations.ColumnMapIsABijectionOfTheFrame : Prop :=
  ∀ s : State, s.geometryOk →
    (∀ i, i < s.frameBitCount.toNat → s.columnIndex i < s.frameBitCount.toNat ∧
      s.columnIndex i = (i % s.height.toNat) * s.width.toNat + i / s.height.toNat ∧
      i / s.height.toNat < s.width.toNat ∧ i % s.height.toNat < s.height.toNat) ∧
    (∀ i i', i < s.frameBitCount.toNat → i' < s.frameBitCount.toNat →
      s.columnIndex i = s.columnIndex i' → i = i') ∧
    (∀ j, j < s.frameBitCount.toNat → ∃ i, i < s.frameBitCount.toNat ∧ s.columnIndex i = j)

/-- R212: with `height = 1` or `width = 1` algorithms 2 and 3 are the same. -/
def Obligations.ColumnOrderIsRasterOrderOnALine : Prop :=
  ∀ s : State, s.geometryOk → (s.height = 1 ∨ s.width = 1) → s.columnFrame = s.rasterFrame

/-- 95_test_vectors.md V4, 30_encoding.md R107: a stream that holds `RUN c, frame_bit_count` at `cursor`
decodes, in raster order, to a frame of that one colour, and all its tokens are consumed. -/
def Obligations.UniformRunPaintsTheFrame : Prop :=
  ∀ (s : State) (color : Bool) (bs : List Byte), Memory.wf s.fb = true →
    bs = (expandRun .tokRaster color s.frameBitCount.toNat).flatMap encode →
    s.cursor + bs.length ≤ s.streamLength →
    (∀ k, k < bs.length → bs[k]? = some (s.streamByte (s.cursor + k))) →
    ∃ t, s.rasterFrame = .ok t ∧ t.cursor = s.cursor + bs.length ∧
      ∀ j, j < s.frameBitCount.toNat → t.frameBit j = color

/-! ### Results and errors -/

/-- 42_run_state_machine.md R168, R169, R170: a step that delivers a frame delivers Snapshot and
`cursor < L`, both after decoding, and counts it; a step of any other kind but CONSTRUCT counts nothing. -/
def Obligations.DeliveredFrameIsCountedSnapshotAndHasMore : Prop :=
  ∀ s t : State, step s = .next t →
    (∀ (bytes : List Byte) (more : Bool), t.results = .frame bytes more :: s.results →
      bytes = t.snapshot ∧ more = decide (t.cursor < t.streamLength) ∧ t.frameIndex = s.frameIndex + 1 ∧
      t.engineState = .ready) ∧
    ((∀ (bytes : List Byte) (more : Bool), t.results ≠ .frame bytes more :: s.results) →
      (∀ data dbg, s.requests.head? ≠ some (.construct data dbg)) → t.frameIndex = s.frameIndex)

/-- R174, 60_exceptions.md R236, R238, R242: an error of DECODE_NEXT and the state `FAULTED` come together.
A step that makes a READY engine `FAULTED` returns one of the two errors of DECODE_NEXT, counts no frame,
delivers none, and keeps every register but the four the spec leaves unspecified; and a step that answers
a DECODE_NEXT of a READY engine with an error does all of that, and so leaves it `FAULTED`. -/
def Obligations.ErrorEndsTheOperationWithoutAFrame : Prop :=
  ∀ s t : State, step s = .next t → s.engineState = .ready →
    (t.engineState = .faulted →
      s.failedWith t t.lastError ∧ (t.lastError = .truncatedStream ∨ t.lastError = .bitIndexOutOfRange)) ∧
    (∀ e : ResultCode, s.requests.head? = some .decodeNext → t.results = .failed e :: s.results →
      s.failedWith t e ∧ (e = .truncatedStream ∨ e = .bitIndexOutOfRange))

/-- R161, 60_exceptions.md R239: in `FAULTED` a DECODE_NEXT changes no register and returns `last_error`. -/
def Obligations.FaultedDecodeNextReturnsTheStoredError : Prop :=
  ∀ (s : State) (ops : List HostOp), s.work = .idle → s.requests = .decodeNext :: ops →
    s.engineState = .faulted →
    step s = .next { s with requests := ops, results := .failed s.lastError :: s.results }

/-- R239, 10_state.md R44: nothing but CONSTRUCT leaves `FAULTED`. -/
def Obligations.OnlyConstructLeavesFaulted : Prop :=
  ∀ s t : State, step s = .next t → s.engineState = .faulted → t.engineState ≠ .faulted →
    ∃ data dbg, s.requests.head? = some (.construct data dbg)

/-- 60_exceptions.md R235: the numbers of the result codes. -/
def Obligations.ResultCodesAreNumberedZeroToFour : Prop :=
  ResultCode.ok.code = 0 ∧ ResultCode.truncatedHeader.code = 1 ∧ ResultCode.truncatedStream.code = 2 ∧
  ResultCode.bitIndexOutOfRange.code = 3 ∧ ResultCode.unknownAlgorithm.code = 4 ∧
  (∀ c c' : ResultCode, c.code = c'.code → c = c') ∧ ∀ c : ResultCode, c.code ≠ 5 ∧ c.code ≠ 6 ∧ c.code ≠ 7

/-- R175, 60_exceptions.md R234, R242: no step raises `UnknownAlgorithm`. -/
def Obligations.UnknownAlgorithmIsNeverRaised : Prop :=
  ∀ s t : State, step s = .next t →
    (t.lastError = .unknownAlgorithm → s.lastError = .unknownAlgorithm) ∧
    (s.lastError ≠ .unknownAlgorithm → t.results ≠ .failed .unknownAlgorithm :: s.results)

/-- 20_memory.md R79, 60_exceptions.md R240: what has been delivered stays as it is; a step adds at most
one result, and takes at most one request. -/
def Obligations.DeliveredResultsNeverChange : Prop :=
  ∀ s t : State, step s = .next t →
    (t.results = s.results ∧ t.requests = s.requests) ∨
    ∃ r, t.results = r :: s.results ∧ t.requests = s.requests.tail

/-! ### Invariants and whole-machine rules -/

/-- The invariant holds at power-on (with the values log 1 names). -/
def Obligations.ResetMeetsTheInvariant : Prop := State.reset.Inv

/-- 10_state.md R48, R49, R50, 40_header_parser.md R123: every step keeps the invariant. Its clauses about
canonical memories are the model's (log 8), those about the operation in progress too (log 3); that
`remaining_repeats` and the size of the frame buffer keep their bounds after an error is read from R49 and
R50 against 60_exceptions.md R238 (log 11). -/
def Obligations.EveryStepKeepsTheInvariant : Prop :=
  ∀ s t : State, s.Inv → step s = .next t → t.Inv

/-- From a state that meets the invariant no step faults, and a step is refused only where the spec has a
model refuse it (R161, R132). -/
def Obligations.StepsFromTheInvariantAreSafe : Prop :=
  ∀ s : State, s.Inv → StepSafe s ∧ ∀ r, step s = .refused r → r = .unconstructed ∧ s.needsInstance

/-- 10_state.md R36, R48, 42_run_state_machine.md R176: but for CONSTRUCT, a step that leaves the engine
`READY` moves `cursor` forward by at most one byte and never past `L`. -/
def Obligations.CursorNeverMovesBack : Prop :=
  ∀ s t : State, step s = .next t → (∀ data dbg, s.requests.head? ≠ some (.construct data dbg)) →
    t.engineState = .ready → t.cursor = s.cursor ∨ (t.cursor = s.cursor + 1 ∧ s.cursor < s.streamLength)

/-- 10_state.md R49, 20_memory.md R61, R78: but for CONSTRUCT, no step changes the geometry registers, `L`,
the input stream or `debug_level`. -/
def Obligations.OnlyConstructWritesGeometryAndStream : Prop :=
  ∀ s t : State, step s = .next t → (∀ data dbg, s.requests.head? ≠ some (.construct data dbg)) →
    s.sameInstance t

/-- 40_header_parser.md R129: two CONSTRUCTs that differ in `debug_level` alone give the same results and
the same geometry for every later sequence of operations. After data of fewer than 5 bytes the geometry
registers hold no value (R121); there the geometry clause compares free values, which are equal because
they share a draw number (log 5). -/
def Obligations.DebugLevelHasNoEffect : Prop :=
  ∀ (s : State) (data : List Byte) (d d' : BitVec 8) (ops : List HostOp) (n : Nat) (t : State),
    s.work = .idle →
    Sys2Proof.core.run n { s with requests := .construct data d :: ops } = .next t →
    ∃ u, Sys2Proof.core.run n { s with requests := .construct data d' :: ops } = .next u ∧
      u.results = t.results ∧ ∀ name, u.geometry name = t.geometry name

/-- R133, 10_state.md R31: a DECODE_NEXT does not depend on `frame_rate`. After a step that raises an error,
`FB`, `cursor`, `current_algorithm` and `remaining_repeats` are unspecified (60_exceptions.md R238); there
the two states agree on them because the free values share a draw number (log 4). -/
def Obligations.FrameRateDoesNotAffectDecoding : Prop :=
  ∀ (s t : State) (fr : BitVec 8), s.requests.head? = some .decodeNext → step s = .next t →
    step { s with frameRate := fr } = .next { t with frameRate := fr }
end

