-- ==== Sys2Proof/Laws/Memory.lean ====
section
/-! SUPPORT. The memory laws: reading after a write, the canonical form and its uniqueness, the bound of
a space, and reading a byte sequence back. -/

namespace Sys2Proof.Machine

open Sys2Proof

@[simp] theorem Memory.read_nil (k : Nat) : Memory.read [] k = 0#8 := rfl

@[simp] theorem Memory.read_cons (a : Nat) (b : Byte) (m : Memory) (k : Nat) :
    Memory.read ((a, b) :: m) k = if a = k then b else Memory.read m k := rfl

/-- No cell of a canonical memory stands below its first address. -/
theorem Memory.read_eq_zero_of_wfFrom {m : Memory} {lo k : Nat} (h : Memory.wfFrom lo m = true)
    (hk : k < lo) : Memory.read m k = 0#8 := by
  induction m generalizing lo with
  | nil => rfl
  | cons c m ih =>
    obtain ⟨a, b⟩ := c
    simp only [Memory.wfFrom, Bool.and_eq_true, decide_eq_true_eq] at h
    rw [Memory.read_cons, if_neg (by omega)]
    exact ih h.2 (by omega)

/-- The canonical form from an address holds from every lower one. -/
theorem Memory.wfFrom_mono {m : Memory} {lo lo' : Nat} (h : Memory.wfFrom lo m = true) (hl : lo' ≤ lo) :
    Memory.wfFrom lo' m = true := by
  cases m with
  | nil => rfl
  | cons c m =>
    obtain ⟨a, b⟩ := c
    simp only [Memory.wfFrom, Bool.and_eq_true, decide_eq_true_eq] at h ⊢
    exact ⟨⟨by omega, h.1.2⟩, h.2⟩

theorem Memory.wfFrom_cons {lo a : Nat} {b : Byte} {m : Memory} :
    Memory.wfFrom lo ((a, b) :: m) = true ↔ lo ≤ a ∧ b ≠ 0#8 ∧ Memory.wfFrom (a + 1) m = true := by
  simp [Memory.wfFrom, and_assoc]

theorem Memory.below_cons {n a : Nat} {b : Byte} {m : Memory} :
    Memory.below ((a, b) :: m) n = true ↔ a < n ∧ Memory.below m n = true := by
  simp [Memory.below]

/-- Reading after a write, in a canonical memory. -/
theorem Memory.read_write_from {m : Memory} {lo : Nat} (h : Memory.wfFrom lo m = true) (k k' : Nat) (v : Byte) :
    Memory.read (Memory.write m k v) k' = if k' = k then v else Memory.read m k' := by
  induction m generalizing lo with
  | nil =>
    simp only [Memory.write]
    split_ifs <;> grind [Memory.read_cons, Memory.read_nil]
  | cons c m ih =>
    obtain ⟨a, b⟩ := c
    obtain ⟨-, -, hm⟩ := Memory.wfFrom_cons.1 h
    have hlow : k ≤ a → Memory.read m k = 0#8 := fun hle => Memory.read_eq_zero_of_wfFrom hm (by omega)
    simp only [Memory.write]
    split_ifs <;> grind [Memory.read_cons]

/-- Reading after a write, in a canonical memory. -/
theorem Memory.read_write {m : Memory} (h : Memory.wf m = true) (k k' : Nat) (v : Byte) :
    Memory.read (Memory.write m k v) k' = if k' = k then v else Memory.read m k' :=
  Memory.read_write_from h k k' v

theorem Memory.wfFrom_write {m : Memory} {lo : Nat} (h : Memory.wfFrom lo m = true) (k : Nat) (v : Byte)
    (hk : lo ≤ k) : Memory.wfFrom lo (Memory.write m k v) = true := by
  induction m generalizing lo with
  | nil =>
    simp only [Memory.write]
    split_ifs with hv
    · rfl
    · exact Memory.wfFrom_cons.2 ⟨hk, hv, rfl⟩
  | cons c m ih =>
    obtain ⟨a, b⟩ := c
    obtain ⟨hlo, hb, hm⟩ := Memory.wfFrom_cons.1 h
    simp only [Memory.write]
    split_ifs with h1 h2 h3 h4
    · exact h
    · exact Memory.wfFrom_cons.2 ⟨hk, h2, Memory.wfFrom_cons.2 ⟨h1, hb, hm⟩⟩
    · exact Memory.wfFrom_mono hm (by omega)
    · exact Memory.wfFrom_cons.2 ⟨hlo, h4, hm⟩
    · exact Memory.wfFrom_cons.2 ⟨hlo, hb, ih hm (by omega)⟩

/-- A write keeps the canonical form. -/
theorem Memory.wf_write {m : Memory} (h : Memory.wf m = true) (k : Nat) (v : Byte) :
    Memory.wf (Memory.write m k v) = true := Memory.wfFrom_write h k v (Nat.zero_le k)

theorem Memory.wfFrom_ofBytes (a : Nat) (bs : List Byte) : Memory.wfFrom a (Memory.ofBytes a bs) = true := by
  induction bs generalizing a with
  | nil => rfl
  | cons b bs ih =>
    simp only [Memory.ofBytes]
    split_ifs with hb
    · exact Memory.wfFrom_mono (ih (a + 1)) (by omega)
    · exact Memory.wfFrom_cons.2 ⟨Nat.le_refl a, hb, ih (a + 1)⟩

/-- A byte sequence stored from address 0 is in canonical form. -/
theorem Memory.wf_ofBytes (bs : List Byte) : Memory.wf (Memory.ofBytes 0 bs) = true := Memory.wfFrom_ofBytes 0 bs

theorem Memory.wf_free (d : Nat) (what : Nat → FreeOf) (n : Nat) : Memory.wf (Memory.free d what n) = true :=
  Memory.wf_ofBytes _

/-- The bytes of a stored sequence read back. -/
theorem Memory.read_ofBytes (a : Nat) (bs : List Byte) (k : Nat) :
    Memory.read (Memory.ofBytes a bs) k = if a ≤ k then bs.getD (k - a) 0#8 else 0#8 := by
  induction bs generalizing a with
  | nil => simp [Memory.ofBytes]
  | cons b bs ih =>
    have hshift : ∀ n, n ≠ 0 → (b :: bs).getD n 0#8 = bs.getD (n - 1) 0#8 := by
      intro n hn; obtain ⟨m, rfl⟩ := Nat.exists_eq_succ_of_ne_zero hn; simp
    simp only [Memory.ofBytes]
    split_ifs with hb h1 h2
    · rw [ih]
      by_cases hk : k = a
      · subst hk; simp [hb]
      · rw [if_pos (by omega), hshift _ (by omega)]; congr 1
    · rw [ih, if_neg (by omega)]
    · rw [Memory.read_cons, ih]
      by_cases hk : a = k
      · subst hk; simp
      · rw [if_neg hk, if_pos (by omega), hshift _ (by omega)]; congr 1
    · rw [Memory.read_cons, ih, if_neg (by omega), if_neg (by omega)]

theorem Memory.below_write {m : Memory} {n : Nat} (h : Memory.below m n = true) (k : Nat) (v : Byte)
    (hk : k < n) : Memory.below (Memory.write m k v) n = true := by
  induction m with
  | nil =>
    simp only [Memory.write]
    split_ifs
    · rfl
    · exact Memory.below_cons.2 ⟨hk, rfl⟩
  | cons c m ih =>
    obtain ⟨a, b⟩ := c
    obtain ⟨ha, hm⟩ := Memory.below_cons.1 h
    simp only [Memory.write]
    split_ifs
    · exact h
    · exact Memory.below_cons.2 ⟨hk, h⟩
    · exact hm
    · exact Memory.below_cons.2 ⟨ha, hm⟩
    · exact Memory.below_cons.2 ⟨ha, ih hm⟩

theorem Memory.below_ofBytes (a : Nat) (bs : List Byte) : Memory.below (Memory.ofBytes a bs) (a + bs.length) = true := by
  induction bs generalizing a with
  | nil => rfl
  | cons b bs ih =>
    have h := ih (a + 1)
    simp only [Memory.ofBytes, List.length_cons]
    rw [show a + (bs.length + 1) = a + 1 + bs.length by omega]
    split_ifs
    · exact h
    · simp only [Memory.below, List.all_cons, Bool.and_eq_true, decide_eq_true_eq] at h ⊢
      exact ⟨by omega, h⟩

theorem Memory.below_free (d : Nat) (what : Nat → FreeOf) (n : Nat) : Memory.below (Memory.free d what n) n = true := by
  simpa [Memory.free] using Memory.below_ofBytes 0 ((List.range n).map fun a => Config.freeBits 8 d (what a))

/-- Every canonical memory lists what it reads: a listed cell reads as its byte, which is not 0. -/
theorem Memory.read_head {a : Nat} {b : Byte} {m : Memory} {lo : Nat}
    (h : Memory.wfFrom lo ((a, b) :: m) = true) : Memory.read ((a, b) :: m) a ≠ 0#8 := by
  simp only [Memory.wfFrom, Bool.and_eq_true, bne_iff_ne] at h
  simpa using h.1.2

@[simp] theorem Memory.readBytes_length (m : Memory) (a n : Nat) : (Memory.readBytes m a n).length = n := by
  induction n generalizing a with
  | zero => rfl
  | succ n ih => simp [Memory.readBytes, ih]

/-- The `k`-th of the bytes read is the byte at that address. -/
theorem Memory.readBytes_getD (m : Memory) (a n k : Nat) (hk : k < n) :
    (Memory.readBytes m a n).getD k 0#8 = Memory.read m (a + k) := by
  induction n generalizing a k with
  | zero => omega
  | succ n ih =>
    cases k with
    | zero => simp [Memory.readBytes]
    | succ k =>
      have := ih (a + 1) k (by omega)
      rw [show a + (k + 1) = a + 1 + k by omega, ← this]
      simp [Memory.readBytes]

/-- Two memories that read alike give the same bytes. -/
theorem Memory.readBytes_congr {m m' : Memory} {a n : Nat}
    (h : ∀ k, a ≤ k → k < a + n → Memory.read m k = Memory.read m' k) :
    Memory.readBytes m a n = Memory.readBytes m' a n := by
  induction n generalizing a with
  | zero => rfl
  | succ n ih =>
    simp only [Memory.readBytes, List.cons.injEq]
    exact ⟨h a (Nat.le_refl a) (by omega), ih fun k h1 h2 => h k (by omega) (by omega)⟩

end Sys2Proof.Machine
end

