-- ==== Sys2Proof/Laws/State.lean ====
section
/-! SUPPORT. One lemma per field per update of the state, so that no proof unfolds a record update. -/

namespace Sys2Proof.Machine

open Sys2Proof

/-! ### Consuming stream bytes -/

@[simp] theorem State.advance_width (s : State) (n : Nat) : (s.advance n).width = s.width := rfl
@[simp] theorem State.advance_height (s : State) (n : Nat) : (s.advance n).height = s.height := rfl
@[simp] theorem State.advance_frameRate (s : State) (n : Nat) : (s.advance n).frameRate = s.frameRate := rfl
@[simp] theorem State.advance_frameBitCount (s : State) (n : Nat) :
    (s.advance n).frameBitCount = s.frameBitCount := rfl
@[simp] theorem State.advance_frameByteCount (s : State) (n : Nat) :
    (s.advance n).frameByteCount = s.frameByteCount := rfl
@[simp] theorem State.advance_streamLength (s : State) (n : Nat) :
    (s.advance n).streamLength = s.streamLength := rfl
@[simp] theorem State.advance_stream (s : State) (n : Nat) : (s.advance n).stream = s.stream := rfl
@[simp] theorem State.advance_fb (s : State) (n : Nat) : (s.advance n).fb = s.fb := rfl
@[simp] theorem State.advance_cursor (s : State) (n : Nat) : (s.advance n).cursor = s.cursor + n := rfl
@[simp] theorem State.advance_currentAlgorithm (s : State) (n : Nat) :
    (s.advance n).currentAlgorithm = s.currentAlgorithm := rfl
@[simp] theorem State.advance_remainingRepeats (s : State) (n : Nat) :
    (s.advance n).remainingRepeats = s.remainingRepeats := rfl
@[simp] theorem State.advance_frameIndex (s : State) (n : Nat) :
    (s.advance n).frameIndex = s.frameIndex := rfl
@[simp] theorem State.advance_debugLevel (s : State) (n : Nat) :
    (s.advance n).debugLevel = s.debugLevel := rfl
@[simp] theorem State.advance_engineState (s : State) (n : Nat) :
    (s.advance n).engineState = s.engineState := rfl
@[simp] theorem State.advance_lastError (s : State) (n : Nat) : (s.advance n).lastError = s.lastError := rfl
@[simp] theorem State.advance_work (s : State) (n : Nat) : (s.advance n).work = s.work := rfl
@[simp] theorem State.advance_requests (s : State) (n : Nat) : (s.advance n).requests = s.requests := rfl
@[simp] theorem State.advance_results (s : State) (n : Nat) : (s.advance n).results = s.results := rfl
@[simp] theorem State.advance_freeDraws (s : State) (n : Nat) : (s.advance n).freeDraws = s.freeDraws := rfl

/-! ### Storing a frame byte -/

@[simp] theorem State.setFrameByte_width (s : State) (k : Nat) (b : Byte) :
    (s.setFrameByte k b).width = s.width := rfl
@[simp] theorem State.setFrameByte_height (s : State) (k : Nat) (b : Byte) :
    (s.setFrameByte k b).height = s.height := rfl
@[simp] theorem State.setFrameByte_frameRate (s : State) (k : Nat) (b : Byte) :
    (s.setFrameByte k b).frameRate = s.frameRate := rfl
@[simp] theorem State.setFrameByte_frameBitCount (s : State) (k : Nat) (b : Byte) :
    (s.setFrameByte k b).frameBitCount = s.frameBitCount := rfl
@[simp] theorem State.setFrameByte_frameByteCount (s : State) (k : Nat) (b : Byte) :
    (s.setFrameByte k b).frameByteCount = s.frameByteCount := rfl
@[simp] theorem State.setFrameByte_streamLength (s : State) (k : Nat) (b : Byte) :
    (s.setFrameByte k b).streamLength = s.streamLength := rfl
@[simp] theorem State.setFrameByte_stream (s : State) (k : Nat) (b : Byte) :
    (s.setFrameByte k b).stream = s.stream := rfl
@[simp] theorem State.setFrameByte_fb (s : State) (k : Nat) (b : Byte) :
    (s.setFrameByte k b).fb = Memory.write s.fb k b := rfl
@[simp] theorem State.setFrameByte_cursor (s : State) (k : Nat) (b : Byte) :
    (s.setFrameByte k b).cursor = s.cursor := rfl
@[simp] theorem State.setFrameByte_currentAlgorithm (s : State) (k : Nat) (b : Byte) :
    (s.setFrameByte k b).currentAlgorithm = s.currentAlgorithm := rfl
@[simp] theorem State.setFrameByte_remainingRepeats (s : State) (k : Nat) (b : Byte) :
    (s.setFrameByte k b).remainingRepeats = s.remainingRepeats := rfl
@[simp] theorem State.setFrameByte_frameIndex (s : State) (k : Nat) (b : Byte) :
    (s.setFrameByte k b).frameIndex = s.frameIndex := rfl
@[simp] theorem State.setFrameByte_debugLevel (s : State) (k : Nat) (b : Byte) :
    (s.setFrameByte k b).debugLevel = s.debugLevel := rfl
@[simp] theorem State.setFrameByte_engineState (s : State) (k : Nat) (b : Byte) :
    (s.setFrameByte k b).engineState = s.engineState := rfl
@[simp] theorem State.setFrameByte_lastError (s : State) (k : Nat) (b : Byte) :
    (s.setFrameByte k b).lastError = s.lastError := rfl
@[simp] theorem State.setFrameByte_work (s : State) (k : Nat) (b : Byte) :
    (s.setFrameByte k b).work = s.work := rfl
@[simp] theorem State.setFrameByte_requests (s : State) (k : Nat) (b : Byte) :
    (s.setFrameByte k b).requests = s.requests := rfl
@[simp] theorem State.setFrameByte_results (s : State) (k : Nat) (b : Byte) :
    (s.setFrameByte k b).results = s.results := rfl
@[simp] theorem State.setFrameByte_freeDraws (s : State) (k : Nat) (b : Byte) :
    (s.setFrameByte k b).freeDraws = s.freeDraws := rfl

/-! ### The selector and the repeat -/

@[simp] theorem State.loadSelector_width (s : State) (a : Algorithm) (rep : Nat) :
    (s.loadSelector a rep).width = s.width := rfl
@[simp] theorem State.loadSelector_height (s : State) (a : Algorithm) (rep : Nat) :
    (s.loadSelector a rep).height = s.height := rfl
@[simp] theorem State.loadSelector_frameRate (s : State) (a : Algorithm) (rep : Nat) :
    (s.loadSelector a rep).frameRate = s.frameRate := rfl
@[simp] theorem State.loadSelector_frameBitCount (s : State) (a : Algorithm) (rep : Nat) :
    (s.loadSelector a rep).frameBitCount = s.frameBitCount := rfl
@[simp] theorem State.loadSelector_frameByteCount (s : State) (a : Algorithm) (rep : Nat) :
    (s.loadSelector a rep).frameByteCount = s.frameByteCount := rfl
@[simp] theorem State.loadSelector_streamLength (s : State) (a : Algorithm) (rep : Nat) :
    (s.loadSelector a rep).streamLength = s.streamLength := rfl
@[simp] theorem State.loadSelector_stream (s : State) (a : Algorithm) (rep : Nat) :
    (s.loadSelector a rep).stream = s.stream := rfl
@[simp] theorem State.loadSelector_fb (s : State) (a : Algorithm) (rep : Nat) :
    (s.loadSelector a rep).fb = s.fb := rfl
@[simp] theorem State.loadSelector_cursor (s : State) (a : Algorithm) (rep : Nat) :
    (s.loadSelector a rep).cursor = s.cursor + 1 := rfl
@[simp] theorem State.loadSelector_currentAlgorithm (s : State) (a : Algorithm) (rep : Nat) :
    (s.loadSelector a rep).currentAlgorithm = BitVec.ofNat 3 a.code := rfl
@[simp] theorem State.loadSelector_remainingRepeats (s : State) (a : Algorithm) (rep : Nat) :
    (s.loadSelector a rep).remainingRepeats = BitVec.ofNat 8 rep := rfl
@[simp] theorem State.loadSelector_frameIndex (s : State) (a : Algorithm) (rep : Nat) :
    (s.loadSelector a rep).frameIndex = s.frameIndex := rfl
@[simp] theorem State.loadSelector_debugLevel (s : State) (a : Algorithm) (rep : Nat) :
    (s.loadSelector a rep).debugLevel = s.debugLevel := rfl
@[simp] theorem State.loadSelector_engineState (s : State) (a : Algorithm) (rep : Nat) :
    (s.loadSelector a rep).engineState = s.engineState := rfl
@[simp] theorem State.loadSelector_lastError (s : State) (a : Algorithm) (rep : Nat) :
    (s.loadSelector a rep).lastError = s.lastError := rfl
@[simp] theorem State.loadSelector_work (s : State) (a : Algorithm) (rep : Nat) :
    (s.loadSelector a rep).work = s.work := rfl
@[simp] theorem State.loadSelector_requests (s : State) (a : Algorithm) (rep : Nat) :
    (s.loadSelector a rep).requests = s.requests := rfl
@[simp] theorem State.loadSelector_results (s : State) (a : Algorithm) (rep : Nat) :
    (s.loadSelector a rep).results = s.results := rfl
@[simp] theorem State.loadSelector_freeDraws (s : State) (a : Algorithm) (rep : Nat) :
    (s.loadSelector a rep).freeDraws = s.freeDraws := rfl

@[simp] theorem State.countRepeat_width (s : State) : (s.countRepeat).width = s.width := rfl
@[simp] theorem State.countRepeat_height (s : State) : (s.countRepeat).height = s.height := rfl
@[simp] theorem State.countRepeat_frameRate (s : State) : (s.countRepeat).frameRate = s.frameRate := rfl
@[simp] theorem State.countRepeat_frameBitCount (s : State) :
    (s.countRepeat).frameBitCount = s.frameBitCount := rfl
@[simp] theorem State.countRepeat_frameByteCount (s : State) :
    (s.countRepeat).frameByteCount = s.frameByteCount := rfl
@[simp] theorem State.countRepeat_streamLength (s : State) :
    (s.countRepeat).streamLength = s.streamLength := rfl
@[simp] theorem State.countRepeat_stream (s : State) : (s.countRepeat).stream = s.stream := rfl
@[simp] theorem State.countRepeat_fb (s : State) : (s.countRepeat).fb = s.fb := rfl
@[simp] theorem State.countRepeat_cursor (s : State) : (s.countRepeat).cursor = s.cursor := rfl
@[simp] theorem State.countRepeat_currentAlgorithm (s : State) :
    (s.countRepeat).currentAlgorithm = s.currentAlgorithm := rfl
@[simp] theorem State.countRepeat_remainingRepeats (s : State) :
    (s.countRepeat).remainingRepeats = s.remainingRepeats - 1 := rfl
@[simp] theorem State.countRepeat_frameIndex (s : State) : (s.countRepeat).frameIndex = s.frameIndex := rfl
@[simp] theorem State.countRepeat_debugLevel (s : State) : (s.countRepeat).debugLevel = s.debugLevel := rfl
@[simp] theorem State.countRepeat_engineState (s : State) : (s.countRepeat).engineState = s.engineState := rfl
@[simp] theorem State.countRepeat_lastError (s : State) : (s.countRepeat).lastError = s.lastError := rfl
@[simp] theorem State.countRepeat_work (s : State) : (s.countRepeat).work = s.work := rfl
@[simp] theorem State.countRepeat_requests (s : State) : (s.countRepeat).requests = s.requests := rfl
@[simp] theorem State.countRepeat_results (s : State) : (s.countRepeat).results = s.results := rfl
@[simp] theorem State.countRepeat_freeDraws (s : State) : (s.countRepeat).freeDraws = s.freeDraws := rfl

/-! ### Results -/

@[simp] theorem State.respond_width (s : State) (r : HostResult) : (s.respond r).width = s.width := rfl
@[simp] theorem State.respond_height (s : State) (r : HostResult) : (s.respond r).height = s.height := rfl
@[simp] theorem State.respond_frameRate (s : State) (r : HostResult) :
    (s.respond r).frameRate = s.frameRate := rfl
@[simp] theorem State.respond_frameBitCount (s : State) (r : HostResult) :
    (s.respond r).frameBitCount = s.frameBitCount := rfl
@[simp] theorem State.respond_frameByteCount (s : State) (r : HostResult) :
    (s.respond r).frameByteCount = s.frameByteCount := rfl
@[simp] theorem State.respond_streamLength (s : State) (r : HostResult) :
    (s.respond r).streamLength = s.streamLength := rfl
@[simp] theorem State.respond_stream (s : State) (r : HostResult) : (s.respond r).stream = s.stream := rfl
@[simp] theorem State.respond_fb (s : State) (r : HostResult) : (s.respond r).fb = s.fb := rfl
@[simp] theorem State.respond_cursor (s : State) (r : HostResult) : (s.respond r).cursor = s.cursor := rfl
@[simp] theorem State.respond_currentAlgorithm (s : State) (r : HostResult) :
    (s.respond r).currentAlgorithm = s.currentAlgorithm := rfl
@[simp] theorem State.respond_remainingRepeats (s : State) (r : HostResult) :
    (s.respond r).remainingRepeats = s.remainingRepeats := rfl
@[simp] theorem State.respond_frameIndex (s : State) (r : HostResult) :
    (s.respond r).frameIndex = s.frameIndex := rfl
@[simp] theorem State.respond_debugLevel (s : State) (r : HostResult) :
    (s.respond r).debugLevel = s.debugLevel := rfl
@[simp] theorem State.respond_engineState (s : State) (r : HostResult) :
    (s.respond r).engineState = s.engineState := rfl
@[simp] theorem State.respond_lastError (s : State) (r : HostResult) :
    (s.respond r).lastError = s.lastError := rfl
@[simp] theorem State.respond_work (s : State) (r : HostResult) : (s.respond r).work = .idle := rfl
@[simp] theorem State.respond_requests (s : State) (r : HostResult) :
    (s.respond r).requests = s.requests.tail := rfl
@[simp] theorem State.respond_results (s : State) (r : HostResult) :
    (s.respond r).results = r :: s.results := rfl
@[simp] theorem State.respond_freeDraws (s : State) (r : HostResult) :
    (s.respond r).freeDraws = s.freeDraws := rfl

@[simp] theorem State.completeFrame_width (s : State) : (s.completeFrame).width = s.width := rfl
@[simp] theorem State.completeFrame_height (s : State) : (s.completeFrame).height = s.height := rfl
@[simp] theorem State.completeFrame_frameRate (s : State) : (s.completeFrame).frameRate = s.frameRate := rfl
@[simp] theorem State.completeFrame_frameBitCount (s : State) :
    (s.completeFrame).frameBitCount = s.frameBitCount := rfl
@[simp] theorem State.completeFrame_frameByteCount (s : State) :
    (s.completeFrame).frameByteCount = s.frameByteCount := rfl
@[simp] theorem State.completeFrame_streamLength (s : State) :
    (s.completeFrame).streamLength = s.streamLength := rfl
@[simp] theorem State.completeFrame_stream (s : State) : (s.completeFrame).stream = s.stream := rfl
@[simp] theorem State.completeFrame_fb (s : State) : (s.completeFrame).fb = s.fb := rfl
@[simp] theorem State.completeFrame_cursor (s : State) : (s.completeFrame).cursor = s.cursor := rfl
@[simp] theorem State.completeFrame_currentAlgorithm (s : State) :
    (s.completeFrame).currentAlgorithm = s.currentAlgorithm := rfl
@[simp] theorem State.completeFrame_remainingRepeats (s : State) :
    (s.completeFrame).remainingRepeats = s.remainingRepeats := rfl
@[simp] theorem State.completeFrame_frameIndex (s : State) :
    (s.completeFrame).frameIndex = s.frameIndex + 1 := rfl
@[simp] theorem State.completeFrame_debugLevel (s : State) :
    (s.completeFrame).debugLevel = s.debugLevel := rfl
@[simp] theorem State.completeFrame_engineState (s : State) :
    (s.completeFrame).engineState = s.engineState := rfl
@[simp] theorem State.completeFrame_lastError (s : State) : (s.completeFrame).lastError = s.lastError := rfl
@[simp] theorem State.completeFrame_work (s : State) : (s.completeFrame).work = .idle := rfl
@[simp] theorem State.completeFrame_requests (s : State) : (s.completeFrame).requests = s.requests.tail := rfl
@[simp] theorem State.completeFrame_results (s : State) :
    (s.completeFrame).results = .frame s.snapshot s.hasMore :: s.results := rfl
@[simp] theorem State.completeFrame_freeDraws (s : State) : (s.completeFrame).freeDraws = s.freeDraws := rfl

/-! ### Errors -/

@[simp] theorem State.raise_width (s : State) (e : ResultCode) : (s.raise e).width = s.width := rfl
@[simp] theorem State.raise_height (s : State) (e : ResultCode) : (s.raise e).height = s.height := rfl
@[simp] theorem State.raise_frameRate (s : State) (e : ResultCode) :
    (s.raise e).frameRate = s.frameRate := rfl
@[simp] theorem State.raise_frameBitCount (s : State) (e : ResultCode) :
    (s.raise e).frameBitCount = s.frameBitCount := rfl
@[simp] theorem State.raise_frameByteCount (s : State) (e : ResultCode) :
    (s.raise e).frameByteCount = s.frameByteCount := rfl
@[simp] theorem State.raise_streamLength (s : State) (e : ResultCode) :
    (s.raise e).streamLength = s.streamLength := rfl
@[simp] theorem State.raise_stream (s : State) (e : ResultCode) : (s.raise e).stream = s.stream := rfl
@[simp] theorem State.raise_fb (s : State) (e : ResultCode) :
    (s.raise e).fb = Memory.free s.freeDraws .frameByte s.frameByteCount.toNat := rfl
@[simp] theorem State.raise_cursor (s : State) (e : ResultCode) :
    (s.raise e).cursor = Config.freeNat s.freeDraws .cursor := rfl
@[simp] theorem State.raise_currentAlgorithm (s : State) (e : ResultCode) :
    (s.raise e).currentAlgorithm = Config.freeBits 3 s.freeDraws .currentAlgorithm := rfl
@[simp] theorem State.raise_remainingRepeats (s : State) (e : ResultCode) :
    (s.raise e).remainingRepeats = (Config.freeBits 5 s.freeDraws .remainingRepeats).setWidth 8 := rfl
@[simp] theorem State.raise_frameIndex (s : State) (e : ResultCode) :
    (s.raise e).frameIndex = s.frameIndex := rfl
@[simp] theorem State.raise_debugLevel (s : State) (e : ResultCode) :
    (s.raise e).debugLevel = s.debugLevel := rfl
@[simp] theorem State.raise_engineState (s : State) (e : ResultCode) :
    (s.raise e).engineState = .faulted := rfl
@[simp] theorem State.raise_lastError (s : State) (e : ResultCode) : (s.raise e).lastError = e := rfl
@[simp] theorem State.raise_work (s : State) (e : ResultCode) : (s.raise e).work = .idle := rfl
@[simp] theorem State.raise_requests (s : State) (e : ResultCode) :
    (s.raise e).requests = s.requests.tail := rfl
@[simp] theorem State.raise_results (s : State) (e : ResultCode) :
    (s.raise e).results = .failed e :: s.results := rfl
@[simp] theorem State.raise_freeDraws (s : State) (e : ResultCode) :
    (s.raise e).freeDraws = s.freeDraws + 1 := rfl

/-! ### CONSTRUCT -/

@[simp] theorem State.construct_width (s : State) (w h : BitVec 16) (fr : BitVec 8) (data : List Byte) (dbg : BitVec 8) :
    (s.construct w h fr data dbg).width = w := rfl
@[simp] theorem State.construct_height (s : State) (w h : BitVec 16) (fr : BitVec 8) (data : List Byte) (dbg : BitVec 8) :
    (s.construct w h fr data dbg).height = h := rfl
@[simp] theorem State.construct_frameRate (s : State) (w h : BitVec 16) (fr : BitVec 8) (data : List Byte) (dbg : BitVec 8) :
    (s.construct w h fr data dbg).frameRate = fr := rfl
@[simp] theorem State.construct_frameBitCount (s : State) (w h : BitVec 16) (fr : BitVec 8) (data : List Byte) (dbg : BitVec 8) :
    (s.construct w h fr data dbg).frameBitCount = BitVec.ofNat 32 (w.toNat * h.toNat) := rfl
@[simp] theorem State.construct_frameByteCount (s : State) (w h : BitVec 16) (fr : BitVec 8) (data : List Byte) (dbg : BitVec 8) :
    (s.construct w h fr data dbg).frameByteCount = BitVec.ofNat 30 (ceil8 (w.toNat * h.toNat)) := rfl
@[simp] theorem State.construct_streamLength (s : State) (w h : BitVec 16) (fr : BitVec 8) (data : List Byte) (dbg : BitVec 8) :
    (s.construct w h fr data dbg).streamLength = data.length := rfl
@[simp] theorem State.construct_stream (s : State) (w h : BitVec 16) (fr : BitVec 8) (data : List Byte) (dbg : BitVec 8) :
    (s.construct w h fr data dbg).stream = Memory.ofBytes 0 data := rfl
@[simp] theorem State.construct_fb (s : State) (w h : BitVec 16) (fr : BitVec 8) (data : List Byte) (dbg : BitVec 8) :
    (s.construct w h fr data dbg).fb = [] := rfl
@[simp] theorem State.construct_cursor (s : State) (w h : BitVec 16) (fr : BitVec 8) (data : List Byte) (dbg : BitVec 8) :
    (s.construct w h fr data dbg).cursor = 5 := rfl
@[simp] theorem State.construct_currentAlgorithm (s : State) (w h : BitVec 16) (fr : BitVec 8) (data : List Byte) (dbg : BitVec 8) :
    (s.construct w h fr data dbg).currentAlgorithm = 0 := rfl
@[simp] theorem State.construct_remainingRepeats (s : State) (w h : BitVec 16) (fr : BitVec 8) (data : List Byte) (dbg : BitVec 8) :
    (s.construct w h fr data dbg).remainingRepeats = 0 := rfl
@[simp] theorem State.construct_frameIndex (s : State) (w h : BitVec 16) (fr : BitVec 8) (data : List Byte) (dbg : BitVec 8) :
    (s.construct w h fr data dbg).frameIndex = 0 := rfl
@[simp] theorem State.construct_debugLevel (s : State) (w h : BitVec 16) (fr : BitVec 8) (data : List Byte) (dbg : BitVec 8) :
    (s.construct w h fr data dbg).debugLevel = dbg := rfl
@[simp] theorem State.construct_engineState (s : State) (w h : BitVec 16) (fr : BitVec 8) (data : List Byte) (dbg : BitVec 8) :
    (s.construct w h fr data dbg).engineState = .ready := rfl
@[simp] theorem State.construct_lastError (s : State) (w h : BitVec 16) (fr : BitVec 8) (data : List Byte) (dbg : BitVec 8) :
    (s.construct w h fr data dbg).lastError = .ok := rfl
@[simp] theorem State.construct_work (s : State) (w h : BitVec 16) (fr : BitVec 8) (data : List Byte) (dbg : BitVec 8) :
    (s.construct w h fr data dbg).work = .idle := rfl
@[simp] theorem State.construct_requests (s : State) (w h : BitVec 16) (fr : BitVec 8) (data : List Byte) (dbg : BitVec 8) :
    (s.construct w h fr data dbg).requests = s.requests.tail := rfl
@[simp] theorem State.construct_results (s : State) (w h : BitVec 16) (fr : BitVec 8) (data : List Byte) (dbg : BitVec 8) :
    (s.construct w h fr data dbg).results = .constructed :: s.results := rfl
@[simp] theorem State.construct_freeDraws (s : State) (w h : BitVec 16) (fr : BitVec 8) (data : List Byte) (dbg : BitVec 8) :
    (s.construct w h fr data dbg).freeDraws = s.freeDraws := rfl

@[simp] theorem State.constructTruncated_engineState (s : State) :
    s.constructTruncated.engineState = .unconstructed := rfl
@[simp] theorem State.constructTruncated_lastError (s : State) :
    s.constructTruncated.lastError = .truncatedHeader := rfl
@[simp] theorem State.constructTruncated_work (s : State) :
    s.constructTruncated.work = .idle := rfl
@[simp] theorem State.constructTruncated_requests (s : State) :
    s.constructTruncated.requests = s.requests.tail := rfl
@[simp] theorem State.constructTruncated_results (s : State) :
    s.constructTruncated.results = .failed .truncatedHeader :: s.results := rfl
@[simp] theorem State.constructTruncated_freeDraws (s : State) :
    s.constructTruncated.freeDraws = s.freeDraws + 1 := rfl

end Sys2Proof.Machine
end

