-- ==== Sys2Proof/Laws/Ops.lean ====
section
/-! SUPPORT. One lemma per shared operation that says what it can do. -/

namespace Sys2Proof.Machine

open Sys2Proof

/-! ### Contexts -/

theorem State.context_selector {s : State} :
    s.context = some .selector ↔
      s.work = .idle ∧ (∃ rest, s.requests = .decodeNext :: rest) ∧ s.engineState = .ready ∧
        s.remainingRepeats = 0 := by
  unfold State.context
  split <;> simp_all

theorem State.context_header {s : State} :
    s.context = some .header ↔ s.work = .idle ∧ ∃ data dbg rest, s.requests = .construct data dbg :: rest := by
  unfold State.context
  split <;> simp_all

theorem State.context_raster {s : State} :
    s.context = some .raster ↔ (∃ i, s.work = .raster i) ∧ s.engineState = .ready := by
  unfold State.context
  split <;> simp_all

theorem State.context_column {s : State} :
    s.context = some .column ↔ (∃ i, s.work = .column i) ∧ s.engineState = .ready := by
  unfold State.context
  split <;> simp_all

theorem State.context_verbatim {s : State} :
    s.context = some .verbatim ↔ (∃ k, s.work = .verbatim k) ∧ s.engineState = .ready := by
  unfold State.context
  split <;> simp_all

theorem inContext_next {c : Context} {s t u : State} (h : inContext c s t = .next u) :
    s.context = some c ∧ u = t := by
  unfold inContext at h
  split at h
  · exact ⟨‹_›, by simpa using h.symm⟩
  · cases h

@[simp] theorem inContext_ne_fault {c : Context} {s t : State} {f : Fault} : inContext c s t ≠ .fault f := by
  unfold inContext
  split <;> simp

theorem inContext_of_context {c : Context} {s t : State} (h : s.context = some c) :
    inContext c s t = .next t := if_pos h

/-! ### The frame buffer -/

/-- SetBit writes one byte of the frame buffer, at an index below `frame_bit_count`. -/
theorem State.setBit_ok {s t : State} {j : Nat} {v : Bool} (h : s.setBit j v = .ok t) :
    j < s.frameBitCount.toNat ∧ t = s.setFrameByte (bitByte j)
      (if v then s.frameByte (bitByte j) ||| bitMask j else s.frameByte (bitByte j) &&& ~~~(bitMask j)) := by
  unfold State.setBit at h
  split at h
  · exact ⟨‹_›, by simpa using h.symm⟩
  · cases h

/-- SetBit fails at an index at or above `frame_bit_count`, and with one error only. -/
theorem State.setBit_error {s : State} {j : Nat} {v : Bool} {e : ResultCode} (h : s.setBit j v = .error e) :
    s.frameBitCount.toNat ≤ j ∧ e = .bitIndexOutOfRange := by
  unfold State.setBit at h
  split at h
  · cases h
  · exact ⟨by omega, by simpa using h.symm⟩

/-- A pixel operation of an algorithm: it can only change the frame buffer, by a byte stored in the
byte of a linear bit below `frame_bit_count`, and can only fail with `BitIndexOutOfRange`. -/
structure PixelOp (pixel : State → Nat → Bool → Except ResultCode State) : Prop where
  /-- What a success does. -/
  ok : ∀ {s t : State} {i : Nat} {v : Bool}, pixel s i v = .ok t →
    ∃ j b, j < s.frameBitCount.toNat ∧ t = s.setFrameByte (bitByte j) b
  /-- What a failure is. -/
  error : ∀ {s : State} {i : Nat} {v : Bool} {e : ResultCode}, pixel s i v = .error e → e = .bitIndexOutOfRange

theorem rasterPixel_op : PixelOp rasterPixel where
  ok h := ⟨_, _, State.setBit_ok h⟩
  error h := (State.setBit_error h).2

theorem columnPixel_op : PixelOp columnPixel where
  ok h := by
    unfold columnPixel at h
    split at h
    · cases h
    · exact ⟨_, _, State.setBit_ok h⟩
  error h := by
    unfold columnPixel at h
    split at h
    · simpa using h.symm
    · exact (State.setBit_error h).2

/-- A token's pixel loop changes the frame buffer alone. -/
theorem paint_ok {pixel : State → Nat → Bool → Except ResultCode State} (hp : PixelOp pixel) {color : Bool}
    {len i : Nat} {s t : State} (h : paint pixel color len i s = .ok t) : t = { s with fb := t.fb } := by
  induction len generalizing i s with
  | zero => simp only [paint, Except.ok.injEq] at h; subst h; rfl
  | succ len ih =>
    simp only [paint] at h
    split at h
    · rename_i u hu
      obtain ⟨j, b, -, rfl⟩ := hp.ok hu
      exact (ih (s := s.setFrameByte (bitByte j) b) h).trans rfl
    · cases h

/-- A property of the frame buffer that every store inside the frame keeps, a token's pixel loop keeps. -/
theorem paint_keeps {pixel : State → Nat → Bool → Except ResultCode State} (hp : PixelOp pixel) {color : Bool}
    {len i n : Nat} {P : Memory → Prop} (hP : ∀ m j b, j < n → P m → P (Memory.write m (bitByte j) b))
    {s t : State} (hn : s.frameBitCount.toNat = n) (hs : P s.fb) (h : paint pixel color len i s = .ok t) :
    P t.fb := by
  induction len generalizing i s with
  | zero => simp only [paint, Except.ok.injEq] at h; subst h; exact hs
  | succ len ih =>
    simp only [paint] at h
    split at h
    · rename_i u hu
      obtain ⟨j, b, hj, rfl⟩ := hp.ok hu
      exact ih (s := s.setFrameByte (bitByte j) b) hn (hP _ _ _ (by omega) hs) h
    · cases h

theorem paint_error {pixel : State → Nat → Bool → Except ResultCode State} (hp : PixelOp pixel) {color : Bool}
    {len i : Nat} {s : State} {e : ResultCode} (h : paint pixel color len i s = .error e) :
    e = .bitIndexOutOfRange := by
  induction len generalizing i s with
  | zero => cases h
  | succ len ih =>
    simp only [paint] at h
    split at h
    · exact ih h
    · rename_i e' he; simp only [Except.error.injEq] at h; subst h; exact hp.error he

/-- CopyFrom changes the frame buffer alone. -/
theorem State.copyFrom_eq (s : State) (k : Nat) (bs : List Byte) :
    s.copyFrom k bs = { s with fb := (s.copyFrom k bs).fb } := by
  induction bs generalizing s k with
  | nil => rfl
  | cons b bs ih => simp only [State.copyFrom]; rw [ih]; rfl

/-! ### Frames -/

/-- A frame goes on below its bound and is complete at it. -/
theorem State.continueFrame_cases (s : State) (bound : Nat) (w : Work) :
    (w.position < bound ∧ s.continueFrame bound w = { s with work := w }) ∨
      (bound ≤ w.position ∧ s.continueFrame bound w = s.completeFrame) := by
  unfold State.continueFrame
  split
  · exact .inl ⟨‹_›, rfl⟩
  · exact .inr ⟨by omega, rfl⟩

/-- What starting the frame of an algorithm can do: raise an error, start its payload, or complete it. -/
theorem State.beginVerbatim_cases (s : State) :
    (s.streamLength < s.cursor + s.frameByteCount.toNat ∧ s.beginVerbatim = s.raise .truncatedStream) ∨
    (s.cursor + s.frameByteCount.toNat ≤ s.streamLength ∧ 0 < s.frameByteCount.toNat ∧
      s.beginVerbatim = { s with work := .verbatim 0 }) ∨
    (s.cursor ≤ s.streamLength ∧ s.frameByteCount.toNat = 0 ∧ s.beginVerbatim = s.completeFrame) := by
  unfold State.beginVerbatim
  split
  · exact .inl ⟨by omega, rfl⟩
  · obtain ⟨h, e⟩ | ⟨h, e⟩ := s.continueFrame_cases s.frameByteCount.toNat (.verbatim 0)
    · exact .inr (.inl ⟨by omega, by simpa [Work.position] using h, e⟩)
    · have h0 : s.frameByteCount.toNat ≤ 0 := h
      exact .inr (.inr ⟨by omega, by omega, e⟩)

theorem State.beginRaster_cases (s : State) :
    (0 < s.frameBitCount.toNat ∧ s.beginRaster = { s with work := .raster 0 }) ∨
    (s.frameBitCount.toNat = 0 ∧ s.beginRaster = s.completeFrame) := by
  obtain ⟨h, e⟩ | ⟨h, e⟩ := s.continueFrame_cases s.frameBitCount.toNat (.raster 0)
  · exact .inl ⟨h, e⟩
  · have h0 : s.frameBitCount.toNat ≤ 0 := h
    exact .inr ⟨by omega, e⟩

theorem State.beginColumn_cases (s : State) :
    (0 < s.frameBitCount.toNat ∧ s.beginColumn = { s with work := .column 0 }) ∨
    (s.frameBitCount.toNat = 0 ∧ s.beginColumn = s.completeFrame) := by
  obtain ⟨h, e⟩ | ⟨h, e⟩ := s.continueFrame_cases s.frameBitCount.toNat (.column 0)
  · exact .inl ⟨h, e⟩
  · have h0 : s.frameBitCount.toNat ≤ 0 := h
    exact .inr ⟨by omega, e⟩

/-- Every 3-bit value names an algorithm, so the dispatch never raises `UnknownAlgorithm`
(42_run_state_machine.md R175). -/
theorem Algorithm.ofCode_bits (b : BitVec 3) : ∃ a, Algorithm.ofCode b.toNat = some a ∧ a.code = b.toNat := by
  revert b; decide

/-- What an in-run frame can start. -/
theorem State.dispatch_cases (s : State) :
    (s.currentAlgorithm = 0 ∧ s.dispatch = s.beginVerbatim) ∨
    (s.currentAlgorithm = 2 ∧ s.dispatch = s.beginRaster) ∨
    (s.currentAlgorithm = 3 ∧ s.dispatch = s.beginColumn) ∨
    ((s.currentAlgorithm = 1 ∨ 4 ≤ s.currentAlgorithm.toNat) ∧ s.dispatch = s.completeFrame) := by
  have h : ∀ b : BitVec 3, b = 0 ∨ b = 1 ∨ b = 2 ∨ b = 3 ∨ b = 4 ∨ b = 5 ∨ b = 6 ∨ b = 7 := by decide
  unfold State.dispatch
  rcases h s.currentAlgorithm with h | h | h | h | h | h | h | h <;> rw [h]
  · exact .inl ⟨rfl, rfl⟩
  · exact .inr (.inr (.inr ⟨.inl rfl, rfl⟩))
  · exact .inr (.inl ⟨rfl, rfl⟩)
  · exact .inr (.inr (.inl ⟨rfl, rfl⟩))
  all_goals exact .inr (.inr (.inr ⟨.inr (by decide), rfl⟩))

/-- The dispatch after a selector of an algorithm is that algorithm: an in-run frame runs what the
selector's frame ran (42_run_state_machine.md R166, R167). -/
theorem State.dispatch_loadSelector (s : State) (a : Algorithm) (rep : Nat) :
    (s.loadSelector a rep).dispatch =
      match a with
      | .verbatim => (s.loadSelector a rep).beginVerbatim
      | .identical => (s.loadSelector a rep).beginIdentical
      | .rlRaster => (s.loadSelector a rep).beginRaster
      | .rlColumn => (s.loadSelector a rep).beginColumn
      | .reserved4 => (s.loadSelector a rep).beginReserved
      | .reserved5 => (s.loadSelector a rep).beginReserved
      | .reserved6 => (s.loadSelector a rep).beginReserved
      | .reserved7 => (s.loadSelector a rep).beginReserved := by
  cases a <;> rfl

/-- What a token of algorithm 2 can do. -/
theorem State.rasterToken_cases (s : State) (color : Bool) (len : Nat) :
    (∃ t, paint rasterPixel color len s.work.position (s.advance 1) = .ok t ∧
      s.rasterToken color len =
        t.continueFrame s.frameBitCount.toNat (.raster (s.work.position + len))) ∨
    s.rasterToken color len = s.raise .bitIndexOutOfRange := by
  unfold State.rasterToken
  split
  · rename_i t ht
    have h := congrArg State.frameBitCount (paint_ok rasterPixel_op ht)
    simp only [State.advance_frameBitCount] at h
    exact .inl ⟨t, ht, by rw [h]⟩
  · rename_i e he; rw [paint_error rasterPixel_op he]; exact .inr rfl

/-- What a token of algorithm 3 can do. -/
theorem State.columnToken_cases (s : State) (color : Bool) (len : Nat) :
    (∃ t, paint columnPixel color len s.work.position (s.advance 1) = .ok t ∧
      s.columnToken color len =
        t.continueFrame s.frameBitCount.toNat (.column (s.work.position + len))) ∨
    s.columnToken color len = s.raise .bitIndexOutOfRange := by
  unfold State.columnToken
  split
  · rename_i t ht
    have h := congrArg State.frameBitCount (paint_ok columnPixel_op ht)
    simp only [State.advance_frameBitCount] at h
    exact .inl ⟨t, ht, by rw [h]⟩
  · rename_i e he; rw [paint_error columnPixel_op he]; exact .inr rfl

end Sys2Proof.Machine
end

