-- ==== Sys2Proof/Laws/PerInstr.lean ====
section
/-! SUPPORT. One lemma per constructor of Instr for each family of LAWS.json. -/

namespace Sys2Proof.Laws.UnitLength

open Sys2Proof

/-- The bits of a unit are as many as its row of the opcode table has: 40 for the header, else 8
(30_encoding.md R100). -/
def Statement (i : Instr) : Prop := 8 * (encode i).length = if i.context = .header then 40 else 8

theorem header (w h : BitVec 16) (fr : BitVec 8) : Statement (.header w h fr) := rfl
theorem selVerbatim (rep : Nat) : Statement (.selVerbatim rep) := rfl
theorem selIdentical (rep : Nat) : Statement (.selIdentical rep) := rfl
theorem selRlRaster (rep : Nat) : Statement (.selRlRaster rep) := rfl
theorem selRlColumn (rep : Nat) : Statement (.selRlColumn rep) := rfl
theorem selReserved4 (rep : Nat) : Statement (.selReserved4 rep) := rfl
theorem selReserved5 (rep : Nat) : Statement (.selReserved5 rep) := rfl
theorem selReserved6 (rep : Nat) : Statement (.selReserved6 rep) := rfl
theorem selReserved7 (rep : Nat) : Statement (.selReserved7 rep) := rfl
theorem tokRaster (color : Bool) (len : Nat) : Statement (.tokRaster color len) := rfl
theorem tokColumn (color : Bool) (len : Nat) : Statement (.tokColumn color len) := rfl
theorem bytes (b : Byte) : Statement (.bytes b) := rfl

end Sys2Proof.Laws.UnitLength
end

