-- ==== Sys2Proof/Laws/Step.lean ====
section
/-! SUPPORT. What one step can do, said once. -/

namespace Sys2Proof.Machine

open Sys2Proof

/-- The unit of every selector byte. -/
theorem decodeSelector_eq (b : Byte) :
    ∃ a : Algorithm, decodeSelector b = a.selector (selectorRep b) ∧ a.code = selectorAlg b := by
  obtain ⟨a, h, hc⟩ := Algorithm.ofCode_bits (b.extractLsb' 5 3)
  refine ⟨a, ?_, hc⟩
  unfold decodeSelector selectorAlg
  rw [h]

theorem selectorRep_le (b : Byte) : selectorRep b ≤ 31 := by
  have := (b.extractLsb' 0 5).isLt
  unfold selectorRep
  omega

theorem tokenLength_pos (b : Byte) : 1 ≤ tokenLength b := Nat.le_add_left _ _

/-- A header is read from the first five bytes. -/
theorem decode_header_ok {data rest : List Byte} {i : Instr} (h : decode .header data = .ok i rest) :
    ∃ b0 b1 b2 b3 b4, data = b0 :: b1 :: b2 :: b3 :: b4 :: rest ∧
      i = .header (bigEndian b0 b1) (bigEndian b2 b3) b4 := by
  match data, h with
  | [], h | [_], h | [_, _], h | [_, _, _], h | [_, _, _, _], h => simp [decode] at h
  | b0 :: b1 :: b2 :: b3 :: b4 :: tail, h =>
    simp only [decode, Decoded.ok.injEq] at h
    obtain ⟨rfl, rfl⟩ := h
    exact ⟨b0, b1, b2, b3, b4, rfl, rfl⟩

/-- Fewer than five bytes are rejected by name, and nothing else is. -/
theorem decode_header_bad {data : List Byte} {e : DecodeError} (h : decode .header data = .bad e) :
    data.length < 5 ∧ e = .shortHeader := by
  match data, h with
  | [], h | [_], h | [_, _], h | [_, _, _], h | [_, _, _, _], h => simpa [decode] using h.symm
  | _ :: _ :: _ :: _ :: _ :: _, h => simp [decode] at h

theorem exec_selector (a : Algorithm) (rep : Nat) (s : State) :
    exec (a.selector rep) s = inContext .selector s (s.loadSelector a rep).dispatch := by
  cases a <;> rfl

/-- The bytes a unit other than a header is read from. -/
theorem State.window_of_ne_header (s : State) {c : Context} (hc : c ≠ .header) :
    s.window c = if s.cursor < s.streamLength then [s.streamByte s.cursor] else [] := by
  cases c <;> first | rfl | exact absurd rfl hc

theorem State.window_header {s : State} {data : List Byte} {dbg : BitVec 8} {rest : List HostOp}
    (h : s.requests = .construct data dbg :: rest) : s.window .header = data := by
  simp only [State.window, h]

/-- What one step that goes on can do. -/
inductive Stepped (s : State) : State → Prop where
  /-- CONSTRUCT of data that begins with a header (40_header_parser.md R130). -/
  | construct {data : List Byte} {dbg : BitVec 8} {ops : List HostOp} {b0 b1 b2 b3 b4 : Byte}
      {rest : List Byte} (idle : s.work = .idle) (request : s.requests = .construct data dbg :: ops)
      (data_eq : data = b0 :: b1 :: b2 :: b3 :: b4 :: rest) :
      Stepped s (s.construct (bigEndian b0 b1) (bigEndian b2 b3) b4 data dbg)
  /-- CONSTRUCT of fewer than 5 bytes (R121). -/
  | constructTruncated {data : List Byte} {dbg : BitVec 8} {ops : List HostOp} (idle : s.work = .idle)
      (request : s.requests = .construct data dbg :: ops) (short : data.length < 5) :
      Stepped s s.constructTruncated
  /-- A selector or payload byte is needed and the stream is at its end (60_exceptions.md R232). -/
  | noByte {c : Context} (context : s.context = some c) (stream_unit : c ≠ .header)
      (atEnd : s.streamLength ≤ s.cursor) : Stepped s (s.raise .truncatedStream)
  /-- A selector (42_run_state_machine.md R164). -/
  | selector {a : Algorithm} (context : s.context = some .selector) (inStream : s.cursor < s.streamLength)
      (alg : a.code = selectorAlg (s.streamByte s.cursor)) :
      Stepped s (s.loadSelector a (selectorRep (s.streamByte s.cursor))).dispatch
  /-- A token of algorithm 2 (43_algorithms.md R197). -/
  | rasterToken (context : s.context = some .raster) (inStream : s.cursor < s.streamLength) :
      Stepped s (s.rasterToken (tokenColor (s.streamByte s.cursor)) (tokenLength (s.streamByte s.cursor)))
  /-- A token of algorithm 3 (R205). -/
  | columnToken (context : s.context = some .column) (inStream : s.cursor < s.streamLength) :
      Stepped s (s.columnToken (tokenColor (s.streamByte s.cursor)) (tokenLength (s.streamByte s.cursor)))
  /-- A byte of a Verbatim payload (R192). -/
  | payloadByte (context : s.context = some .verbatim) (inStream : s.cursor < s.streamLength)
      (inFrame : s.work.position < s.frameByteCount.toNat) :
      Stepped s (s.payloadByte (s.streamByte s.cursor))
  /-- No operation is requested (60_exceptions.md R249). -/
  | rest (idle : s.work = .idle) (request : s.requests = []) : Stepped s s
  /-- DECODE_NEXT in `FAULTED` (R239). -/
  | stuck {ops : List HostOp} (idle : s.work = .idle) (request : s.requests = .decodeNext :: ops)
      (faulted : s.engineState = .faulted) : Stepped s (s.respond (.failed s.lastError))
  /-- An in-run frame (42_run_state_machine.md R165). -/
  | inRun {ops : List HostOp} (idle : s.work = .idle) (request : s.requests = .decodeNext :: ops)
      (ready : s.engineState = .ready) (repeats : s.remainingRepeats ≠ 0) : Stepped s s.repeatFrame
  /-- READ_GEOMETRY (40_header_parser.md R132). -/
  | geometry {name : Geometry} {ops : List HostOp} (idle : s.work = .idle)
      (request : s.requests = .readGeometry name :: ops) (constructed : s.engineState ≠ .unconstructed) :
      Stepped s (s.respond (.value (s.geometry name)))

/-- The host's part of a step. -/
theorem State.hostAction_move {s t : State} (hc : s.context = none) (h : s.hostAction = .move t) : Stepped s t := by
  unfold State.hostAction at h
  split at h
  · rename_i hw
    split at h
    · rename_i hr; simp only [Action.move.injEq] at h; subst h; exact .rest hw hr
    · cases h
    · rename_i ops hr
      split at h
      · cases h
      · rename_i he; simp only [Action.move.injEq] at h; subst h; exact .stuck hw hr he
      · rename_i he
        simp only [Action.move.injEq] at h; subst h
        refine .inRun hw hr he fun h0 => ?_
        simp [State.context, hw, hr, he, h0] at hc
    · rename_i name ops hr
      split at h
      · cases h
      · rename_i he; simp only [Action.move.injEq] at h; subst h; exact .geometry hw hr (by simp [he])
      · rename_i he; simp only [Action.move.injEq] at h; subst h; exact .geometry hw hr (by simp [he])
  · cases h

theorem step_next_of_unit {s t : State} {c : Context} {i : Instr} {rest : List Byte} (hc : s.context = some c)
    (hd : decode c (s.window c) = .ok i rest) (h : exec i s = .next t) : Stepped s t := by
  cases c with
  | header =>
    obtain ⟨hw, data, dbg, ops, hr⟩ := State.context_header.1 hc
    rw [State.window_header hr] at hd
    obtain ⟨b0, b1, b2, b3, b4, rfl, rfl⟩ := decode_header_ok hd
    simp only [exec, execHeader, hr] at h
    rw [(inContext_next h).2]
    exact .construct hw hr rfl
  | selector =>
    rw [s.window_of_ne_header (by decide)] at hd
    split at hd
    · rename_i hl
      obtain ⟨a, ha, hcode⟩ := decodeSelector_eq (s.streamByte s.cursor)
      simp only [decode, Decoded.ok.injEq] at hd
      rw [← hd.1, ha, exec_selector] at h
      rw [(inContext_next h).2]
      exact .selector hc hl hcode
    · simp [decode] at hd
  | raster =>
    rw [s.window_of_ne_header (by decide)] at hd
    split at hd
    · rename_i hl
      simp only [decode, Decoded.ok.injEq] at hd
      rw [← hd.1] at h
      rw [(inContext_next h).2]
      exact .rasterToken hc hl
    · simp [decode] at hd
  | column =>
    rw [s.window_of_ne_header (by decide)] at hd
    split at hd
    · rename_i hl
      simp only [decode, Decoded.ok.injEq] at hd
      rw [← hd.1] at h
      rw [(inContext_next h).2]
      exact .columnToken hc hl
    · simp [decode] at hd
  | verbatim =>
    rw [s.window_of_ne_header (by decide)] at hd
    split at hd
    · rename_i hl
      simp only [decode, Decoded.ok.injEq] at hd
      rw [← hd.1] at h
      simp only [exec, execBytes] at h
      split at h
      · cases h
      · rename_i hn
        rw [(inContext_next h).2]
        exact .payloadByte hc hl (by simpa [hc] using hn)
    · simp [decode] at hd

/-- What one step that goes on can do. -/
theorem step_next {s t : State} (h : step s = .next t) : Stepped s t := by
  unfold step State.nextAction at h
  split at h
  · rename_i i ha
    split at ha
    · rename_i c hc
      split at ha
      · rename_i hd; simp only [Action.run.injEq] at ha; subst ha; exact step_next_of_unit hc hd h
      · cases ha
    · rename_i hc
      unfold State.hostAction at ha
      repeat' split at ha
      all_goals cases ha
  · rename_i u ha
    simp only [Host.Outcome.next.injEq] at h; subst h
    split at ha
    · rename_i c hc
      split at ha
      · cases ha
      · rename_i e hd
        simp only [Action.move.injEq] at ha; subst ha
        by_cases hh : c = .header
        · subst hh
          obtain ⟨hw, data, dbg, ops, hr⟩ := State.context_header.1 hc
          rw [State.window_header hr] at hd
          obtain ⟨hlen, rfl⟩ := decode_header_bad hd
          exact .constructTruncated hw hr hlen
        · rw [s.window_of_ne_header hh] at hd
          split at hd
          · cases c <;> simp [decode] at hd hh
          · have he : e = .noByte := by cases c <;> simp [decode] at hd hh <;> exact hd.symm
            subst he
            exact .noByte hc hh (by omega)
    · rename_i hc; exact State.hostAction_move hc ha
  · cases h

/-- An in-run DECODE_NEXT of a READY engine goes on, without a unit being read (42_run_state_machine.md R165). -/
theorem step_inRun {s : State} {ops : List HostOp} (hw : s.work = .idle) (hr : s.requests = .decodeNext :: ops)
    (he : s.engineState = .ready) (h0 : s.remainingRepeats ≠ 0) : step s = .next s.repeatFrame := by
  have hc : s.context = none := by unfold State.context; rw [hw, hr, he]; exact if_neg h0
  simp only [step, State.nextAction, hc, State.hostAction, hw, hr, he, if_true]

/-- A run of the host's `core` goes on after a step that does. -/
theorem run_succ {n : Nat} {s t : State} (h : step s = .next t) :
    Sys2Proof.core.run (n + 1) s = Sys2Proof.core.run n t := by
  have h' : Sys2Proof.core.step s = .next t := h
  simp only [Host.Core.run, h']

/-- A run of one step or more that ends in a state begins with a step that goes on. -/
theorem run_next {n : Nat} {s t : State} (h : Sys2Proof.core.run (n + 1) s = .next t) :
    ∃ u, step s = .next u ∧ Sys2Proof.core.run n u = .next t := by
  cases hs : step s with
  | next u => exact ⟨u, rfl, by rw [run_succ hs] at h; exact h⟩
  | fault f =>
    have h' : Sys2Proof.core.step s = .fault f := hs
    simp [Host.Core.run, h'] at h
  | refused r =>
    have h' : Sys2Proof.core.step s = .refused r := hs
    simp [Host.Core.run, h'] at h

end Sys2Proof.Machine
end

