-- ==== Sys2Proof/Tests/Slice0.lean ====
section
/-! SUPPORT. The model's own tests: ill-formed units, words written out from the encoding tables, single
steps whose results stand in 95_test_vectors.md, and a witness for the hypotheses of each statement. -/

namespace Sys2Proof.Tests

open Sys2Proof Sys2Proof.Machine

/-! ### Ill-formed units (30_encoding.md R106) -/

theorem test_wf_rep_of_each_selector_at_most_31 :
    Instr.wf (.selVerbatim 32) = false ∧ Instr.wf (.selIdentical 32) = false ∧
    Instr.wf (.selRlRaster 32) = false ∧ Instr.wf (.selRlColumn 32) = false ∧
    Instr.wf (.selReserved4 32) = false ∧ Instr.wf (.selReserved5 32) = false ∧
    Instr.wf (.selReserved6 32) = false ∧ Instr.wf (.selReserved7 32) = false := by decide

theorem test_wf_len_at_least_1 :
    Instr.wf (.tokRaster true 0) = false ∧ Instr.wf (.tokColumn false 0) = false := by decide

theorem test_wf_len_at_most_128 :
    Instr.wf (.tokRaster true 129) = false ∧ Instr.wf (.tokColumn false 129) = false := by decide

/-! ### Words (30_encoding.md R90, R93, R96, R99; 95_test_vectors.md V1, 2.3, 2.4) -/

theorem test_decode_header :
    decode .header [0b00000001, 0b00000010, 0b00000000, 0b00000001, 0b00000000] = .ok (.header 258 1 0) [] := by decide
theorem test_decode_selVerbatim : decode .selector [0b00011111] = .ok (.selVerbatim 31) [] := by decide
theorem test_decode_selIdentical : decode .selector [0b00100011] = .ok (.selIdentical 3) [] := by decide
theorem test_decode_selRlRaster : decode .selector [0b01000000] = .ok (.selRlRaster 0) [] := by decide
theorem test_decode_selRlColumn : decode .selector [0b01111111] = .ok (.selRlColumn 31) [] := by decide
theorem test_decode_selReserved4 : decode .selector [0b10011111] = .ok (.selReserved4 31) [] := by decide
theorem test_decode_selReserved5 : decode .selector [0b10100000] = .ok (.selReserved5 0) [] := by decide
theorem test_decode_selReserved6 : decode .selector [0b11000010] = .ok (.selReserved6 2) [] := by decide
theorem test_decode_selReserved7 : decode .selector [0b11100001] = .ok (.selReserved7 1) [] := by decide
theorem test_decode_tokRaster : decode .raster [0b01000111] = .ok (.tokRaster false 72) [] := by decide
theorem test_decode_tokColumn : decode .column [0b10001000] = .ok (.tokColumn true 9) [] := by decide
theorem test_decode_bytes : decode .verbatim [0b10100101] = .ok (.bytes 0xA5) [] := by decide

/-- 2.4: `RUN 1, 300` is `FF FF AB`; `RUN 0, 0` is nothing. -/
theorem test_run_expands :
    (expandRun .tokRaster true 300).flatMap encode = [0xFF, 0xFF, 0xAB] ∧ expandRun .tokRaster false 0 = [] := by
  decide

/-- The table's numbering: a header word has its width in bits 39:24 (opcode_table.json). -/
theorem test_table_word :
    decodeTableWord 40 0x0102000519 = some (.header 258 5 25) ∧ decodeTableWord 8 0x41 = some (.selRlRaster 1) := by
  decide

/-! ### Single steps -/

/-- The engine after CONSTRUCT of a header and a tail (70_reset_and_hazards.md R261), with the host
operations still to come. -/
def built (w h : BitVec 16) (tail : List Byte) (ops : List HostOp) : State :=
  State.construct { State.reset with requests := .construct [] 0 :: ops } w h 25
    (encode (.header w h 25) ++ tail) 0

/-- A field of the state after a step. -/
def see {α : Type} (f : State → α) : Host.Outcome State Fault Refusal → Option α
  | .next t => some (f t)
  | _ => none

/-- The engine inside a frame: at a stream address, in a payload, with a frame buffer. -/
def within (s : State) (cursor : Nat) (w : Work) (fb : List Byte) : State :=
  { s with cursor := cursor, work := w, fb := Memory.ofBytes 0 fb }

/-- 2.1: `01 02 00 01 00` gives width 258, 258 bits, 33 bytes. -/
theorem test_header : see (fun t => (t.width, t.height, t.frameRate, t.frameBitCount, t.frameByteCount))
    (step { State.reset with requests := [.construct [0x01, 0x02, 0x00, 0x01, 0x00]] }) =
    some (258, 1, 0, 258, 33) := by decide
/-- 2.1: four bytes are `TruncatedHeader`. -/
theorem test_header_short : see (fun t => (t.engineState, t.results))
    (step { State.reset with requests := [.construct [0x00, 0x08, 0x00, 0x01]] }) =
    some (.unconstructed, [.failed .truncatedHeader]) := by decide

/-- V2: the selector of `00 08 00 01 01 00 A5` goes on to the payload at address 6. -/
theorem test_selVerbatim : see (fun t => (t.cursor, t.work))
    (step (built 8 1 [0x00, 0xA5] [.decodeNext])) = some (6, .verbatim 0) := by decide
/-- 2.6: 16 by 1 needs 2 payload bytes and only 1 remains. -/
theorem test_selVerbatim_short : see (fun t => (t.engineState, t.results.head?, t.frameIndex))
    (step (built 16 1 [0x00, 0xAA] [.decodeNext])) = some (.faulted, some (.failed .truncatedStream), 0) := by decide

/-- V6: `SEL.IDENTICAL 3` completes a frame with `rr = 3`, `cur = 6`, `fi = 1`. -/
theorem test_selIdentical : see (fun t => (t.cursor, t.remainingRepeats, t.frameIndex, t.results.head?))
    (step (built 8 1 [0x23] [.decodeNext])) = some (6, 3, 1, some (.frame [0x00] false)) := by decide

/-- 2.8, 0 by 5: no token is read, and the next byte is a selector. -/
theorem test_selRlRaster_empty : see (fun t => (t.cursor, t.results.head?))
    (step (built 0 5 [0x40, 0x00] [.decodeNext])) = some (6, some (.frame [] true)) := by decide
/-- P1: `41` goes on to the tokens, one more frame to come. -/
theorem test_selRlRaster : see (fun t => (t.cursor, t.currentAlgorithm, t.remainingRepeats, t.work))
    (step (built 4 2 [0x41, 0x83] [.decodeNext])) = some (6, 2, 1, .raster 0) := by decide

/-- 2.9, 3 by 0: no token, no `mod 0`. -/
theorem test_selRlColumn_empty : see (fun t => (t.cursor, t.results.head?))
    (step (built 3 0 [0x60] [.decodeNext])) = some (6, some (.frame [] false)) := by decide
/-- V5: `60` goes on to the tokens. -/
theorem test_selRlColumn : see (fun t => (t.cursor, t.currentAlgorithm, t.work))
    (step (built 2 2 [0x60, 0x80] [.decodeNext])) = some (6, 3, .column 0) := by decide

/-- 2.10: `80` after a frame `FF`: alg 4, the frame unchanged. -/
theorem test_selReserved4 : see (fun t => (t.currentAlgorithm, t.cursor, t.results.head?))
    (step (within (built 8 1 [0x00, 0xFF, 0x80, 0xE1] [.decodeNext]) 7 .idle [0xFF])) =
    some (4, 8, some (.frame [0xFF] true)) := by decide
/-- P2, call 3: `A0` leaves `AA 80`. -/
theorem test_selReserved5 : see (fun t => (t.currentAlgorithm, t.results.head?))
    (step (within (built 3 3 [0xA0, 0x40] [.decodeNext]) 5 .idle [0xAA, 0x80])) =
    some (5, some (.frame [0xAA, 0x80] true)) := by decide
/-- 30_encoding.md R102: code 6 is a no-op too. -/
theorem test_selReserved6 : see (fun t => (t.currentAlgorithm, t.remainingRepeats, t.results.head?))
    (step (within (built 8 1 [0xC2] [.decodeNext]) 5 .idle [0x0F])) = some (6, 2, some (.frame [0x0F] false)) := by decide
/-- 2.10: `E1`: alg 7, one more frame of the run. -/
theorem test_selReserved7 : see (fun t => (t.currentAlgorithm, t.remainingRepeats, t.results.head?))
    (step (within (built 8 1 [0x00, 0xFF, 0x80, 0xE1] [.decodeNext]) 8 .idle [0xFF])) =
    some (7, 1, some (.frame [0xFF] false)) := by decide

/-- 2.8, 4 by 2: after `TOK 1,3`, `TOK 0,5` completes `E0`. -/
theorem test_tokRaster : see (fun t => (t.cursor, t.results.head?))
    (step (within (built 4 2 [0x40, 0x82, 0x04] [.decodeNext]) 7 (.raster 3) [0xE0])) =
    some (8, some (.frame [0xE0] false)) := by decide
/-- P3: 5 + 4 > 8. -/
theorem test_tokRaster_overshoot : see (fun t => (t.engineState, t.lastError))
    (step (within (built 8 1 [0x40, 0x84, 0x03] [.decodeNext]) 7 (.raster 5) [0xF8])) =
    some (.faulted, .bitIndexOutOfRange) := by decide

/-- 2.9, 3 by 2: `TOK 1,3` sets linear bits 0, 3, 1. -/
theorem test_tokColumn : see (fun t => (t.snapshot, t.work))
    (step (within (built 3 2 [0x60, 0x82, 0x02] [.decodeNext]) 6 (.column 0) [0x00])) =
    some ([0xD0], .column 3) := by decide
/-- 2.9, 3 by 2: 5 + 2 > 6. -/
theorem test_tokColumn_overshoot : see (fun t => (t.engineState, t.lastError))
    (step (within (built 3 2 [0x60, 0x84, 0x81] [.decodeNext]) 7 (.column 5) [0x00])) =
    some (.faulted, .bitIndexOutOfRange) := by decide

/-- V2: the payload byte `A5` completes `A5`, `cur = 7`. -/
theorem test_bytes : see (fun t => (t.cursor, t.frameIndex, t.results.head?))
    (step (within (built 8 1 [0x00, 0xA5] [.decodeNext]) 6 (.verbatim 0) [0x00])) =
    some (7, 1, some (.frame [0xA5] false)) := by decide
/-- P2, call 2: the second of two payload bytes. -/
theorem test_bytes_last : see (fun t => (t.cursor, t.results.head?))
    (step (within (built 3 3 [0x00, 0xAA, 0x80, 0xA0] [.decodeNext]) 7 (.verbatim 1) [0xAA, 0x00])) =
    some (8, some (.frame [0xAA, 0x80] true)) := by decide

/-- 2.5: SetBit sets bit 9 of 16 in the second byte, and checks 9 against `fbc = 9`. -/
theorem test_setBit :
    ((built 16 1 [] []).setBit 9 true).toOption.map State.snapshot = some [0x00, 0x40] ∧
    ((built 3 3 [] []).setBit 9 true).toOption = none := by decide
/-- 2.5: SetPixel(2, 0) on 2 by 2 is linear bit 2. -/
theorem test_setPixel_alias :
    ((built 2 2 [] []).setPixel 2 0 true).toOption.map State.snapshot = some [0x20] := by decide
/-- V7: a header alone is `TruncatedStream` at the first DECODE_NEXT. -/
theorem test_header_only : see (fun t => (t.engineState, t.results.head?, t.frameIndex))
    (step (built 8 1 [] [.decodeNext])) = some (.faulted, some (.failed .truncatedStream), 0) := by decide
/-- V6: an in-run frame reads no selector. -/
theorem test_inRun : see (fun t => (t.cursor, t.remainingRepeats, t.results.head?))
    (step { built 8 1 [0x23] [.decodeNext] with cursor := 6, currentAlgorithm := 1, remainingRepeats := 3 }) =
    some (6, 2, some (.frame [0x00] false)) := by decide

/-! ### Witnesses: states and operands that meet the hypotheses of the statements -/

/-- `8 by 1`, a selector next. -/
def atSel (tail : List Byte) : State := built 8 1 tail [.decodeNext]

/-- A READY engine in the middle of a frame of algorithm 2, 3 or 0. -/
def midRaster : State := { within (built 3 2 [0x40, 0x82, 0x02] [.decodeNext]) 7 (.raster 3) [0xE0] with currentAlgorithm := 2 }
def midColumn : State := { within (built 3 2 [0x60, 0x82, 0x02] [.decodeNext]) 7 (.column 3) [0xD0] with currentAlgorithm := 3 }
def midVerbatim : State := { within (built 3 3 [0x00, 0xAA, 0x80] [.decodeNext]) 6 (.verbatim 0) [] with currentAlgorithm := 0 }

/-- A FAULTED engine. -/
def faulted (ops : List HostOp) : State :=
  { built 8 1 [0x40, 0x88] ops with engineState := .faulted, lastError := .bitIndexOutOfRange }

theorem witness_DecodeOfEncodeIsTheUnit :
    Instr.wf (.header 0xFFFF 0 0xFF) = true ∧ Instr.wf (.selReserved7 31) = true ∧
    Instr.wf (.tokRaster true 128) = true ∧ Instr.wf (.tokColumn false 1) = true := by decide

theorem witness_EncodeOfDecodeIsTheBytes :
    decode .selector [0xFF, 0x00] = .ok (.selReserved7 31) [0x00] ∧
    decode .header [0, 8, 0, 1, 1] = .ok (.header 8 1 1) [] := by decide

theorem witness_EveryByteIsASelector :
    (0x1F : Byte).toNat / 32 = 0 ∧ (0x20 : Byte).toNat / 32 = 1 ∧ (0x5F : Byte).toNat / 32 = 2 ∧
    (0x60 : Byte).toNat / 32 = 3 ∧ (0x9F : Byte).toNat / 32 = 4 ∧ (0xA0 : Byte).toNat / 32 = 5 ∧
    (0xDF : Byte).toNat / 32 = 6 ∧ (0xE0 : Byte).toNat / 32 = 7 := by decide

theorem witness_StepRunsTheDecodedUnit :
    ((atSel [0x20]).context = some .selector ∧ (atSel [0x20]).cursor < (atSel [0x20]).streamLength ∧
      decode .selector [(atSel [0x20]).streamByte (atSel [0x20]).cursor] = .ok (.selIdentical 0) []) ∧
    (State.work { State.reset with requests := [.construct [0, 8, 0, 1, 1]] } = .idle ∧
      decode .header [0, 8, 0, 1, 1] = .ok (.header 8 1 1) []) := by decide

theorem witness_PlacedWordIsTheNextUnit :
    Memory.wf State.reset.stream = true ∧ decodeTableWord 8 0x9F = some (.selReserved4 31) ∧
    decodeTableWord 40 0x0008000101 = some (.header 8 1 1) := by decide

theorem witness_NothingRequestedNothingChanges : State.reset.work = .idle ∧ State.reset.requests = [] := ⟨rfl, rfl⟩

theorem witness_CanonicalMemoriesThatReadAlikeAreEqual :
    Memory.wf (Memory.write [(4, 1)] 2 3) = true ∧ Memory.wf [(2, 3), (4, 1)] = true ∧
    ∀ a, Memory.read (Memory.write [(4, 1)] 2 3) a = Memory.read [(2, 3), (4, 1)] a :=
  ⟨by decide, by decide, fun _ => rfl⟩

theorem witness_SetBitWritesOneBitOrFails :
    Memory.wf (built 3 3 [] []).fb = true ∧ (built 3 3 [] []).frameBitCount.toNat ≤ 9 ∧
    8 < (built 3 3 [] []).frameBitCount.toNat := by decide

theorem witness_SnapshotIsEveryFrameByte : 1 < (built 3 3 [] []).frameByteCount.toNat := by decide

theorem witness_CopyFromIsAByteForByteCopy :
    Memory.wf (built 3 3 [] []).fb = true ∧ [0xAA#8, 0x80#8].length = (built 3 3 [] []).frameByteCount.toNat := by
  decide

/-- A CONSTRUCT of exactly 5 bytes, in FAULTED. -/
theorem witness_HeaderWritesEveryRegister :
    (faulted [.construct [0, 8, 0, 1, 1] 3]).work = .idle ∧
    (faulted [.construct [0, 8, 0, 1, 1] 3]).requests = [.construct [0, 8, 0, 1, 1] 3] := ⟨rfl, rfl⟩

theorem witness_ConstructReadsTheHeaderAndResets :
    State.work { State.reset with requests := [.construct [0, 8, 0, 1, 1, 0, 0xFF]] } = .idle ∧
    State.requests { State.reset with requests := [.construct [0, 8, 0, 1, 1, 0, 0xFF]] } =
      .construct (0 :: 8 :: 0 :: 1 :: 1 :: [0, 0xFF]) 0 :: [] := ⟨rfl, rfl⟩

theorem witness_ConstructOfFewerThanFiveBytesFails :
    State.reset.work = .idle ∧
    State.requests { State.reset with requests := [.construct [0, 8, 0, 1]] } = .construct [0, 8, 0, 1] 0 :: [] ∧
    [0#8, 8#8, 0#8, 1#8].length < 5 ∧ 5 ≤ [0#8, 8#8, 0#8, 1#8, 1#8].length := by decide

theorem witness_ReadGeometryAnswersItsRegister :
    (built 5 3 [] [.readGeometry .width]).work = .idle ∧
    (built 5 3 [] [.readGeometry .width]).engineState ≠ .unconstructed ∧
    (faulted [.readGeometry .width]).requests = .readGeometry .width :: [] ∧
    (faulted [.readGeometry .width]).engineState ≠ .unconstructed := by decide

theorem witness_UnconstructedRefusesDecodeAndRead :
    State.needsInstance { State.reset with requests := [.decodeNext] } ∧
    State.needsInstance { State.reset with requests := [.readGeometry .height] } ∧ State.reset.work = .idle :=
  ⟨⟨rfl, .inl rfl⟩, ⟨rfl, .inr ⟨_, rfl⟩⟩, rfl⟩

theorem witness_ZeroCostSelectorsCompleteAFrame :
    (atSel [0x9F]).atSelector ∧ (Instr.selReserved4 31, 4#3) ∈
      [(Instr.selIdentical 31, 1#3), (.selReserved4 31, 4#3), (.selReserved5 31, 5#3),
        (.selReserved6 31, 6#3), (.selReserved7 31, 7#3)] := ⟨⟨rfl, rfl, rfl, rfl⟩, by decide⟩

theorem witness_VerbatimSelectorStartsThePayload :
    ((atSel [0x00, 0xA5]).atSelector ∧
      (atSel [0x00, 0xA5]).cursor + 1 + (atSel [0x00, 0xA5]).frameByteCount.toNat = (atSel [0x00, 0xA5]).streamLength ∧
      0 < (atSel [0x00, 0xA5]).frameByteCount.toNat) ∧
    ((built 0 0 [0x01] [.decodeNext]).atSelector ∧
      (built 0 0 [0x01] [.decodeNext]).cursor + 1 + (built 0 0 [0x01] [.decodeNext]).frameByteCount.toNat =
        (built 0 0 [0x01] [.decodeNext]).streamLength ∧
      (built 0 0 [0x01] [.decodeNext]).frameByteCount.toNat = 0) :=
  ⟨⟨⟨rfl, rfl, rfl, rfl⟩, by decide, by decide⟩, ⟨⟨rfl, rfl, rfl, rfl⟩, by decide, by decide⟩⟩

theorem witness_RunLengthSelectorsStartAtCountZero :
    ((atSel [0x40]).atSelector ∧ 0 < (atSel [0x40]).frameBitCount.toNat) ∧
    ((built 3 0 [0x60] [.decodeNext]).atSelector ∧ (built 3 0 [0x60] [.decodeNext]).frameBitCount.toNat = 0) :=
  ⟨⟨⟨rfl, rfl, rfl, rfl⟩, by decide⟩, ⟨⟨rfl, rfl, rfl, rfl⟩, by decide⟩⟩

theorem witness_SelectorsStoreNothing :
    ∃ t, exec (Algorithm.selector .rlColumn 31) (atSel [0x7F]) = .next t ∧ t.engineState = .ready := ⟨_, rfl, rfl⟩

theorem witness_VerbatimSelectorWithoutItsPayloadFails :
    (atSel [0x00]).atSelector ∧
    (atSel [0x00]).streamLength < (atSel [0x00]).cursor + 1 + (atSel [0x00]).frameByteCount.toNat :=
  ⟨⟨rfl, rfl, rfl, rfl⟩, by decide⟩

theorem witness_UnitPastTheEndIsTruncatedStream :
    ((atSel []).streamLength ≤ (atSel []).cursor ∧ (atSel []).atSelector) ∧
    (State.streamLength { midRaster with cursor := 8 } ≤ State.cursor { midRaster with cursor := 8 } ∧
      State.atRasterToken { midRaster with cursor := 8 } 3) ∧
    (State.streamLength { midColumn with cursor := 8 } ≤ State.cursor { midColumn with cursor := 8 } ∧
      State.atColumnToken { midColumn with cursor := 8 } 3) :=
  ⟨⟨by decide, rfl, rfl, rfl, rfl⟩, ⟨by decide, rfl, rfl⟩, ⟨by decide, rfl, rfl⟩⟩

/-- An engine inside a run of the algorithm `alg`, one frame to come. -/
def inRun (alg : BitVec 3) (tail : List Byte) : State :=
  { atSel tail with cursor := 6, currentAlgorithm := alg, remainingRepeats := 1 }

/-- An algorithm other than 0, a Verbatim payload that ends exactly at `L`, and one byte less. -/
theorem witness_InRunFrameReadsNoSelector :
    ((inRun 1 [0x21]).atDecodeNext ∧ (inRun 1 [0x21]).remainingRepeats ≠ 0 ∧ (inRun 1 [0x21]).currentAlgorithm ≠ 0) ∧
    ((inRun 0 [0x01, 0xA5]).atDecodeNext ∧ (inRun 0 [0x01, 0xA5]).remainingRepeats ≠ 0 ∧
      (inRun 0 [0x01, 0xA5]).cursor + (inRun 0 [0x01, 0xA5]).frameByteCount.toNat =
        (inRun 0 [0x01, 0xA5]).streamLength) ∧
    ((inRun 0 [0x01]).atDecodeNext ∧ (inRun 0 [0x01]).remainingRepeats ≠ 0 ∧ (inRun 0 [0x01]).currentAlgorithm = 0 ∧
      (inRun 0 [0x01]).streamLength < (inRun 0 [0x01]).cursor + (inRun 0 [0x01]).frameByteCount.toNat) :=
  ⟨⟨⟨rfl, rfl, rfl⟩, by decide, by decide⟩, ⟨⟨rfl, rfl, rfl⟩, by decide, by decide⟩,
    ⟨⟨rfl, rfl, rfl⟩, by decide, by decide, by decide⟩⟩

theorem witness_ZeroCostRunYieldsRepPlusOneFrames :
    (built 8 1 [0x23] [.decodeNext, .decodeNext, .decodeNext, .decodeNext, .decodeNext]).atSelector ∧
    (built 8 1 [0x23] [.decodeNext, .decodeNext, .decodeNext, .decodeNext, .decodeNext]).requests =
      List.replicate ((0x23 : Byte).toNat % 32 + 1) .decodeNext ++ [.decodeNext] ∧
    (built 8 1 [0x23] []).streamByte (built 8 1 [0x23] []).cursor = 0x23 ∧ (0x23 : Byte).toNat / 32 ∈ [1, 4, 5, 6, 7] ∧
    (built 8 1 [0x23] []).cursor < (built 8 1 [0x23] []).streamLength :=
  ⟨⟨rfl, rfl, rfl, rfl⟩, rfl, rfl, by decide, by decide⟩

/-- Both ends: a token inside the frame and the token that completes it. -/
theorem witness_RasterTokenWritesItsPixels :
    Memory.wf midRaster.fb = true ∧ midRaster.atRasterToken 3 ∧ 3 + 2 < midRaster.frameBitCount.toNat ∧
    3 + 3 = midRaster.frameBitCount.toNat := ⟨by decide, ⟨rfl, rfl⟩, by decide, by decide⟩

theorem witness_ColumnTokenWritesItsPixels :
    Memory.wf midColumn.fb = true ∧ midColumn.geometryOk ∧ midColumn.atColumnToken 3 ∧
    3 + 2 < midColumn.frameBitCount.toNat ∧ 3 + 3 = midColumn.frameBitCount.toNat :=
  ⟨by decide, ⟨by decide, by decide⟩, ⟨rfl, rfl⟩, by decide, by decide⟩

theorem witness_OvershootingTokenFails :
    midRaster.frameBitCount.toNat < 3 + 4 ∧ midRaster.atRasterToken 3 ∧
    midColumn.frameBitCount.toNat < 3 + 4 ∧ midColumn.atColumnToken 3 := ⟨by decide, ⟨rfl, rfl⟩, by decide, ⟨rfl, rfl⟩⟩

/-- The first byte of two, and the last. -/
theorem witness_PayloadByteIsStored :
    (Memory.wf midVerbatim.fb = true ∧ midVerbatim.atPayloadByte 0 ∧ 0 + 1 < midVerbatim.frameByteCount.toNat) ∧
    (State.atPayloadByte { midVerbatim with work := .verbatim 1 } 1 ∧ 1 + 1 = midVerbatim.frameByteCount.toNat) :=
  ⟨⟨by decide, ⟨rfl, rfl⟩, by decide⟩, ⟨rfl, rfl⟩, by decide⟩

theorem witness_UnitOutsideItsContextIsRefused :
    State.reset.context ≠ some (Instr.context (.bytes 0)) ∧
    State.atPayloadByte { midVerbatim with work := .verbatim 2 } 2 ∧
    State.frameByteCount { midVerbatim with work := .verbatim 2 } ≤ 2 := ⟨by decide, ⟨rfl, rfl⟩, by decide⟩

theorem witness_StepsPerformTheAtomicDecodeNext : (atSel [0x00, 0xA5]).atDecodeNext := ⟨rfl, rfl, rfl⟩

theorem witness_NothingShowsBeforeTheOperationCompletes :
    ∃ t, step midRaster = .next t ∧ State.work midRaster ≠ .idle ∧
    see State.work (step (atSel [0x40])) = some (.raster 0) := ⟨_, rfl, by decide, by decide⟩

/-- A selector's frame and an in-run frame, of a zero-cost algorithm with one repeat. -/
theorem witness_RunStateTransitionsOfDecodeNext :
    (∃ t, (atSel [0x21]).decodeNext = .next t ∧ t.engineState = .ready ∧
      (atSel [0x21]).runState = .awaitingSelector ∧ (atSel [0x21]).engineState = .ready) ∧
    (∃ t, State.decodeNext { atSel [0x21] with currentAlgorithm := 1, remainingRepeats := 1 } = .next t ∧
      t.engineState = .ready ∧
      State.runState { atSel [0x21] with currentAlgorithm := 1, remainingRepeats := 1 } = .inRun 1) :=
  ⟨⟨_, rfl, by decide, by decide, by decide⟩, ⟨_, rfl, by decide, by decide⟩⟩

/-- The payload ends exactly at `L`, and one byte is missing. -/
theorem witness_VerbatimFrameIsItsPayload :
    (Memory.wf (within (built 3 3 [0x00, 0xAA, 0x80] []) 6 .idle [0xFF]).fb = true ∧
      (within (built 3 3 [0x00, 0xAA, 0x80] []) 6 .idle [0xFF]).cursor +
        (within (built 3 3 [0x00, 0xAA, 0x80] []) 6 .idle [0xFF]).frameByteCount.toNat =
        (within (built 3 3 [0x00, 0xAA, 0x80] []) 6 .idle [0xFF]).streamLength) ∧
    (within (built 3 3 [0x00, 0xAA] []) 6 .idle [0xFF]).streamLength <
      (within (built 3 3 [0x00, 0xAA] []) 6 .idle [0xFF]).cursor +
        (within (built 3 3 [0x00, 0xAA] []) 6 .idle [0xFF]).frameByteCount.toNat := by decide

/-- A frame whose snapshot can be computed is a success. -/
theorem frame_ok {r : FrameResult} {bytes : List Byte} (h : r.toOption.map State.snapshot = some bytes) :
    ∃ t, r = .ok t ∧ t.snapshot = bytes := by
  cases r with
  | ok t => exact ⟨t, rfl, by simpa [Except.toOption] using h⟩
  | error e => simp [Except.toOption] at h

/-- 95_test_vectors.md 2.9, 3 by 2; the same bytes in raster order. -/
theorem witness_RunLengthPixelsIgnoreThePreviousFrame :
    (∃ t, State.columnFrame (within (built 3 2 [0x60, 0x82, 0x02] []) 6 .idle []) = .ok t ∧ t.snapshot = [0xD0]) ∧
    (∃ t, State.rasterFrame (within (built 3 2 [0x60, 0x82, 0x02] []) 6 .idle []) = .ok t ∧ t.snapshot = [0xE0]) ∧
    Memory.wf (within (built 3 2 [0x60, 0x82, 0x02] []) 6 .idle []).fb = true ∧ Memory.wf [(0, 0xFF)] = true ∧
    (within (built 3 2 [0x60, 0x82, 0x02] []) 6 .idle []).geometryOk :=
  ⟨frame_ok (by decide +kernel), frame_ok (by decide +kernel), by decide, by decide, by decide, by decide⟩

/-- 95_test_vectors.md 2.6: `TOK 0, 9` over `FF FF` leaves `00 7F`. -/
theorem witness_RunLengthFramesKeepThePadding :
    (∃ t, State.rasterFrame (within (built 3 3 [0x40, 0x08] []) 6 .idle [0xFF, 0xFF]) = .ok t ∧
      t.snapshot = [0x00, 0x7F]) ∧
    Memory.wf (within (built 3 3 [0x40, 0x08] []) 6 .idle [0xFF, 0xFF]).fb = true ∧
    (within (built 3 3 [0x40, 0x08] []) 6 .idle [0xFF, 0xFF]).frameBitCount.toNat ≤ 9 :=
  ⟨frame_ok (by decide +kernel), by decide, by decide⟩

theorem witness_ColumnMapIsABijectionOfTheFrame :
    (built 3 2 [] []).geometryOk ∧ 5 < (built 3 2 [] []).frameBitCount.toNat := ⟨⟨by decide, by decide⟩, by decide⟩

theorem witness_ColumnOrderIsRasterOrderOnALine :
    ((built 5 1 [] []).geometryOk ∧ (built 5 1 [] []).height = 1) ∧
    ((built 1 4 [] []).geometryOk ∧ (built 1 4 [] []).width = 1) :=
  ⟨⟨⟨by decide, by decide⟩, rfl⟩, ⟨⟨by decide, by decide⟩, rfl⟩⟩

/-- 95_test_vectors.md V4: 20 by 10 is `7F 47`. -/
theorem witness_UniformRunPaintsTheFrame :
    Memory.wf (built 20 10 [0x40, 0x7F, 0x47] []).fb = true ∧
    [0x7F#8, 0x47#8] =
      (expandRun .tokRaster false (built 20 10 [0x40, 0x7F, 0x47] []).frameBitCount.toNat).flatMap encode ∧
    6 + [0x7F#8, 0x47#8].length ≤ (built 20 10 [0x40, 0x7F, 0x47] []).streamLength ∧
    ∀ k, k < 2 → [0x7F#8, 0x47#8][k]? = some ((built 20 10 [0x40, 0x7F, 0x47] []).streamByte (6 + k)) := by decide

theorem witness_DeliveredFrameIsCountedSnapshotAndHasMore :
    (∃ t, step (atSel [0x20]) = .next t ∧ t.results = .frame [0x00] false :: (atSel [0x20]).results) ∧
    (∃ t, step (built 8 1 [] [.readGeometry .width]) = .next t ∧
      t.results = .value 8 :: (built 8 1 [] [.readGeometry .width]).results ∧
      (built 8 1 [] [.readGeometry .width]).requests.head? = some (.readGeometry .width)) :=
  ⟨⟨_, rfl, by decide⟩, ⟨_, rfl, by decide, by decide⟩⟩

theorem witness_ErrorEndsTheOperationWithoutAFrame :
    ∃ t, step (atSel []) = .next t ∧ (atSel []).engineState = .ready ∧ t.engineState = .faulted ∧
      (atSel []).requests.head? = some .decodeNext ∧ t.results = .failed .truncatedStream :: (atSel []).results :=
  ⟨_, rfl, rfl, rfl, rfl, rfl⟩

theorem witness_FaultedDecodeNextReturnsTheStoredError :
    (faulted [.decodeNext]).work = .idle ∧ (faulted [.decodeNext]).requests = .decodeNext :: [] ∧
    (faulted [.decodeNext]).engineState = .faulted := ⟨rfl, rfl, rfl⟩

theorem witness_OnlyConstructLeavesFaulted :
    ∃ t, step (faulted [.construct [0, 8, 0, 1, 1]]) = .next t ∧
    (faulted [.construct [0, 8, 0, 1, 1]]).engineState = .faulted ∧ t.engineState ≠ .faulted :=
  ⟨_, rfl, rfl, by decide⟩

theorem witness_UnknownAlgorithmIsNeverRaised :
    ∃ t, step (atSel [0x20]) = .next t ∧ (atSel [0x20]).lastError ≠ .unknownAlgorithm := ⟨_, rfl, by decide⟩

theorem witness_DeliveredResultsNeverChange :
    (∃ t, step midRaster = .next t ∧ t.results = .frame [0xE0] false :: midRaster.results) ∧
    ∃ t, step (atSel [0x40]) = .next t ∧ t.results = (atSel [0x40]).results := ⟨⟨_, rfl, by decide⟩, ⟨_, rfl, by decide⟩⟩

theorem witness_EveryStepKeepsTheInvariant : midColumn.Inv ∧ ∃ t, step midColumn = .next t := by
  refine ⟨⟨by decide, by decide, by decide, by decide, by decide, fun _ => ⟨by decide, by decide⟩, fun _ => by decide,
    ?_, rfl⟩, _, rfl⟩
  exact ⟨rfl, rfl, by decide, by decide⟩

theorem witness_StepsFromTheInvariantAreSafe :
    (atSel [0x20]).Inv ∧ State.Inv { State.reset with requests := [.decodeNext] } ∧
    ∃ r, step { State.reset with requests := [.decodeNext] } = .refused r :=
  ⟨⟨by decide, by decide, by decide, by decide, by decide, fun _ => ⟨by decide, by decide⟩, fun _ => by decide,
      trivial, rfl⟩,
    ⟨by decide, by decide, by decide, by decide, by decide, fun h => absurd rfl h, fun h => absurd h (by decide),
      trivial, .inl rfl⟩,
    _, rfl⟩

theorem witness_CursorNeverMovesBack :
    ∃ t, step midRaster = .next t ∧ (∀ data dbg, midRaster.requests.head? ≠ some (.construct data dbg)) ∧
    t.engineState = .ready ∧ t.cursor = midRaster.cursor + 1 :=
  ⟨_, rfl, fun _ _ h => by simp [midRaster, within, built, State.construct] at h, by decide, by decide⟩

theorem witness_OnlyConstructWritesGeometryAndStream :
    ∃ t, step midVerbatim = .next t ∧ ∀ data dbg, midVerbatim.requests.head? ≠ some (.construct data dbg) :=
  ⟨_, rfl, fun _ _ h => by simp [midVerbatim, within, built, State.construct] at h⟩

theorem witness_DebugLevelHasNoEffect :
    ∃ t, Sys2Proof.core.run 2 { State.reset with requests := .construct [0, 8, 0, 1, 1, 0x20] 0 :: [.decodeNext] } =
      .next t ∧ t.results = [.frame [0x00] false, .constructed] := ⟨_, rfl, by decide⟩

theorem witness_FrameRateDoesNotAffectDecoding :
    ∃ t, step midColumn = .next t ∧ midColumn.requests.head? = some .decodeNext := ⟨_, rfl, rfl⟩

end Sys2Proof.Tests
end

/-! The invariant of the engine: each shared operation keeps it, and so does every step
(10_state.md R48, R49, R50; 40_header_parser.md R123). -/

namespace Sys2Proof.Machine

open Sys2Proof

/-! ### The bounds the operations turn on -/

/-- The byte of a pixel's linear bit stands in the frame buffer (20_memory.md R63, R66). -/
theorem State.geometryOk.bitByte_lt {s : State} (h : s.geometryOk) {j : Nat}
    (hj : j < s.frameBitCount.toNat) : bitByte j < s.frameByteCount.toNat := by
  obtain ⟨hbits, hbytes⟩ := h
  simp only [ceil8] at hbytes
  simp only [bitByte]
  omega

/-- The 32-bit and 30-bit size registers hold the sizes of every 16-bit geometry
(40_header_parser.md R123). -/
theorem State.construct_geometryOk (s : State) (w h : BitVec 16) (fr : BitVec 8) (data : List Byte)
    (dbg : BitVec 8) : (s.construct w h fr data dbg).geometryOk := by
  have hpixels : w.toNat * h.toNat ≤ (2 ^ 16 - 1) * (2 ^ 16 - 1) :=
    Nat.mul_le_mul (by omega) (by omega)
  constructor
  · simp only [State.construct_frameBitCount, State.construct_width, State.construct_height,
      BitVec.toNat_ofNat]
    omega
  · simp only [State.construct_frameByteCount, State.construct_width, State.construct_height,
      BitVec.toNat_ofNat, ceil8]
    omega

/-- Five bits are at most 31, as free values too (10_state.md R50, log 11). -/
theorem toNat_setWidth_fiveBits_le (b : BitVec 5) : (b.setWidth 8).toNat ≤ 31 := by
  rw [BitVec.toNat_setWidth]
  omega

/-- A stream unit other than a header is read by a READY engine alone (30_encoding.md R101). -/
theorem State.ready_of_context {s : State} {c : Context} (h : s.context = some c)
    (hc : c ≠ .header) : s.engineState = .ready := by
  cases c with
  | header => exact absurd rfl hc
  | selector => exact (State.context_selector.1 h).2.2.1
  | raster => exact (State.context_raster.1 h).2
  | column => exact (State.context_column.1 h).2
  | verbatim => exact (State.context_verbatim.1 h).2

/-! ### What each shared operation keeps -/

/-- The invariant speaks of the operation in progress in one clause only. -/
theorem State.Inv.setWork {s : State} (h : s.Inv) {w : Work}
    (hw : State.workOk { s with work := w }) : State.Inv { s with work := w } :=
  { h with work := hw }

theorem State.Inv.respond {s : State} (h : s.Inv) (r : HostResult) : (s.respond r).Inv :=
  { h with work := trivial }

theorem State.Inv.completeFrame {s : State} (h : s.Inv) : s.completeFrame.Inv :=
  { h with work := trivial }

/-- An error of DECODE_NEXT keeps the invariant: the free values stay in their bounds (log 11). -/
theorem State.Inv.raise {s : State} (h : s.Inv) (hready : s.engineState = .ready) {e : ResultCode}
    (he : e = .truncatedStream ∨ e = .bitIndexOutOfRange) : (s.raise e).Inv where
  stream_wf := h.stream_wf
  fb_wf := Memory.wf_free _ _ _
  stream_below := h.stream_below
  fb_below := Memory.below_free _ _ _
  repeats_le := toNat_setWidth_fiveBits_le _
  geometry _ := h.geometry (by simp [hready])
  cursor_bounds hfaulted := by simp at hfaulted
  work := trivial
  error := he

/-- A frame that goes on or is complete keeps the invariant, if the new position agrees with the
registers. What the operation in progress was before is of no matter. -/
theorem State.Inv.continueFrame {s : State} (h : State.Inv { s with work := .idle }) {bound : Nat}
    {w : Work} (hw : w.position < bound → State.workOk { s with work := w }) :
    (s.continueFrame bound w).Inv := by
  obtain ⟨hlt, heq⟩ | ⟨-, heq⟩ := s.continueFrame_cases bound w <;> rw [heq]
  · exact h.setWork (hw hlt)
  · exact h.completeFrame

/-- A step from a DECODE_NEXT that has its run set starts its frame, completes it or fails. -/
theorem State.Inv.dispatch {s : State} (h : s.Inv) (hready : s.engineState = .ready)
    (hreq : s.requests.head? = some .decodeNext) : s.dispatch.Inv := by
  obtain ⟨halg, heq⟩ | ⟨halg, heq⟩ | ⟨halg, heq⟩ | ⟨-, heq⟩ := s.dispatch_cases <;> rw [heq]
  · obtain ⟨-, heq⟩ | ⟨hfits, hpos, heq⟩ | ⟨-, -, heq⟩ := s.beginVerbatim_cases <;> rw [heq]
    · exact h.raise hready (.inl rfl)
    · exact h.setWork ⟨hready, hreq, halg, hpos, hfits⟩
    · exact h.completeFrame
  · obtain ⟨hpos, heq⟩ | ⟨-, heq⟩ := s.beginRaster_cases <;> rw [heq]
    · exact h.setWork ⟨hready, hreq, halg, hpos⟩
    · exact h.completeFrame
  · obtain ⟨hpos, heq⟩ | ⟨-, heq⟩ := s.beginColumn_cases <;> rw [heq]
    · exact h.setWork ⟨hready, hreq, halg, hpos⟩
    · exact h.completeFrame
  · exact h.completeFrame

/-- A selector is consumed inside the stream, and its repeat count fits 5 bits
(42_run_state_machine.md R164). -/
theorem State.Inv.loadSelector {s : State} (h : s.Inv) (hidle : s.work = .idle)
    (hin : s.cursor < s.streamLength) (a : Algorithm) {rep : Nat} (hrep : rep ≤ 31) :
    (s.loadSelector a rep).Inv :=
  { h with
    repeats_le := by
      simp only [State.loadSelector_remainingRepeats, BitVec.toNat_ofNat]
      omega
    cursor_bounds := fun hready => by
      have hbounds := h.cursor_bounds hready
      simp only [State.loadSelector_cursor, State.loadSelector_streamLength]
      omega
    work := by simp only [State.workOk, State.loadSelector_work, hidle] }

/-- An in-run frame counts down and never below 0 (42_run_state_machine.md R165). -/
theorem State.Inv.countRepeat {s : State} (h : s.Inv) (hidle : s.work = .idle)
    (hrep : s.remainingRepeats ≠ 0) : s.countRepeat.Inv :=
  { h with
    repeats_le := by
      have hle := h.repeats_le
      simp only [State.countRepeat_remainingRepeats]
      bv_omega
    work := by simp only [State.workOk, State.countRepeat_work, hidle] }

/-- The pixel loop of a token of a READY engine: it has consumed the token's byte and keeps the
invariant, whatever the token overwrote inside the frame. -/
theorem State.Inv.paint {pixel : State → Nat → Bool → Except ResultCode State} (hp : PixelOp pixel)
    {s t : State} (h : s.Inv) (hready : s.engineState = .ready) (hin : s.cursor < s.streamLength)
    {color : Bool} {len i : Nat} (hpaint : paint pixel color len i (s.advance 1) = .ok t) :
    State.Inv { t with work := .idle } := by
  have hgeometry : s.geometryOk := h.geometry (by simp [hready])
  have hbounds := h.cursor_bounds hready
  obtain ⟨hwf, hbelow⟩ : Memory.wf t.fb = true ∧ Memory.below t.fb s.frameByteCount.toNat = true :=
    paint_keeps hp (s := s.advance 1)
      (P := fun m => Memory.wf m = true ∧ Memory.below m s.frameByteCount.toNat = true)
      (fun _ _ b hj hm => ⟨Memory.wf_write hm.1 _ b, Memory.below_write hm.2 _ b (hgeometry.bitByte_lt hj)⟩)
      rfl ⟨h.fb_wf, h.fb_below⟩ hpaint
  rw [paint_ok hp hpaint]
  exact { h with
    fb_wf := hwf
    fb_below := hbelow
    cursor_bounds := fun _ => by simp only [State.advance_cursor, State.advance_streamLength]; omega
    work := trivial }

/-- A token of either run-length algorithm, by what it can do, keeps the invariant if the position it
would go on from agrees with the registers, whatever stands in the frame buffer. -/
theorem State.Inv.token {pixel : State → Nat → Bool → Except ResultCode State} (hp : PixelOp pixel)
    {s t : State} (h : s.Inv) (hready : s.engineState = .ready) (hin : s.cursor < s.streamLength)
    {color : Bool} {len i bound : Nat} {w : Work}
    (hcases : (∃ u, Machine.paint pixel color len i (s.advance 1) = .ok u ∧ t = u.continueFrame bound w) ∨
      t = s.raise .bitIndexOutOfRange)
    (hw : ∀ m, w.position < bound → State.workOk { s.advance 1 with fb := m, work := w }) :
    t.Inv := by
  obtain ⟨u, hpaint, rfl⟩ | rfl := hcases
  · refine (h.paint hp hready hin hpaint).continueFrame fun hlt => ?_
    rw [paint_ok hp hpaint]
    exact hw u.fb hlt
  · exact h.raise hready (.inr rfl)

/-- A token of algorithm 2 of the frame in progress. -/
theorem State.Inv.rasterToken {s : State} (h : s.Inv) (hcontext : s.context = some .raster)
    (hin : s.cursor < s.streamLength) (color : Bool) (len : Nat) : (s.rasterToken color len).Inv := by
  obtain ⟨⟨i, hwork⟩, hready⟩ := State.context_raster.1 hcontext
  have hold := h.work
  simp only [State.workOk, hwork] at hold
  obtain ⟨-, hreq, halg, -⟩ := hold
  exact h.token rasterPixel_op hready hin (s.rasterToken_cases color len)
    fun _ hlt => ⟨hready, hreq, halg, hlt⟩

/-- A token of algorithm 3 of the frame in progress. -/
theorem State.Inv.columnToken {s : State} (h : s.Inv) (hcontext : s.context = some .column)
    (hin : s.cursor < s.streamLength) (color : Bool) (len : Nat) : (s.columnToken color len).Inv := by
  obtain ⟨⟨i, hwork⟩, hready⟩ := State.context_column.1 hcontext
  have hold := h.work
  simp only [State.workOk, hwork] at hold
  obtain ⟨-, hreq, halg, -⟩ := hold
  exact h.token columnPixel_op hready hin (s.columnToken_cases color len)
    fun _ hlt => ⟨hready, hreq, halg, hlt⟩

/-- A payload byte: consuming it and storing it each leave one byte fewer to come
(43_algorithms.md R192). -/
theorem State.Inv.payloadByte {s : State} (h : s.Inv) (hcontext : s.context = some .verbatim)
    (hin : s.cursor < s.streamLength) (hframe : s.work.position < s.frameByteCount.toNat) (b : Byte) :
    (s.payloadByte b).Inv := by
  obtain ⟨⟨k, hwork⟩, hready⟩ := State.context_verbatim.1 hcontext
  have hbounds := h.cursor_bounds hready
  have hold := h.work
  simp only [State.workOk, hwork] at hold
  obtain ⟨-, hreq, halg, -, hpayload⟩ := hold
  have hstored : State.Inv { (s.advance 1).setFrameByte s.work.position b with work := .idle } :=
    { h with
      fb_wf := Memory.wf_write h.fb_wf _ _
      fb_below := Memory.below_write h.fb_below _ _ hframe
      cursor_bounds := fun _ => by
        simp only [State.setFrameByte_cursor, State.setFrameByte_streamLength, State.advance_cursor,
          State.advance_streamLength]
        omega
      work := trivial }
  refine hstored.continueFrame fun hlt => ⟨hready, hreq, halg, hlt, ?_⟩
  simp only [Work.position, hwork, State.setFrameByte_cursor, State.setFrameByte_streamLength,
    State.setFrameByte_frameByteCount, State.advance_cursor, State.advance_streamLength,
    State.advance_frameByteCount] at hlt ⊢
  omega

/-- A successful CONSTRUCT establishes the invariant, whatever was before (40_header_parser.md R131). -/
theorem State.construct_inv (s : State) (w h : BitVec 16) (fr : BitVec 8) {data : List Byte}
    (dbg : BitVec 8) (hlen : 5 ≤ data.length) : (s.construct w h fr data dbg).Inv where
  stream_wf := Memory.wf_ofBytes data
  fb_wf := rfl
  stream_below := by simpa using Memory.below_ofBytes 0 data
  fb_below := rfl
  repeats_le := by simp
  geometry _ := s.construct_geometryOk w h fr data dbg
  cursor_bounds _ := ⟨le_rfl, hlen⟩
  work := trivial
  error := rfl

/-- So does a failed one: the engine is `UNCONSTRUCTED`, and the free memories are in their bounds. -/
theorem State.constructTruncated_inv (s : State) : s.constructTruncated.Inv where
  stream_wf := Memory.wf_free _ _ _
  fb_wf := Memory.wf_free _ _ _
  stream_below := Memory.below_free _ _ _
  fb_below := Memory.below_free _ _ _
  repeats_le := toNat_setWidth_fiveBits_le _
  geometry hconstructed := absurd rfl hconstructed
  cursor_bounds hready := by simp at hready
  work := trivial
  error := .inr rfl

/-! ### The obligations about the invariant -/

/-- Settles O49: power-on is `UNCONSTRUCTED` with empty memories. -/
theorem resetMeetsTheInvariant : Obligations.ResetMeetsTheInvariant where
  stream_wf := rfl
  fb_wf := rfl
  stream_below := rfl
  fb_below := rfl
  repeats_le := by decide
  geometry hconstructed := absurd rfl hconstructed
  cursor_bounds hready := nomatch hready
  work := trivial
  error := .inl rfl

/-- Settles O50, by what a step can do: each of its cases is an operation that keeps the invariant. -/
theorem everyStepKeepsTheInvariant : Obligations.EveryStepKeepsTheInvariant := by
  intro s t h hstep
  cases step_next hstep with
  | construct _ _ hdata => exact s.construct_inv _ _ _ _ (by simp [hdata])
  | constructTruncated => exact s.constructTruncated_inv
  | noByte hcontext hunit _ => exact h.raise (State.ready_of_context hcontext hunit) (.inl rfl)
  | selector hcontext hin _ =>
    obtain ⟨hidle, ⟨_, hreq⟩, hready, -⟩ := State.context_selector.1 hcontext
    exact (h.loadSelector hidle hin _ (selectorRep_le _)).dispatch hready (by simp [hreq])
  | rasterToken hcontext hin => exact h.rasterToken hcontext hin _ _
  | columnToken hcontext hin => exact h.columnToken hcontext hin _ _
  | payloadByte hcontext hin hframe => exact h.payloadByte hcontext hin hframe _
  | rest => exact h
  | stuck => exact h.respond _
  | inRun hidle hreq hready hrep => exact (h.countRepeat hidle hrep).dispatch hready (by simp [hreq])
  | geometry => exact h.respond _

end Sys2Proof.Machine

/-! What a step leaves unchanged. A step that is no CONSTRUCT holds the state, answers the host, or
performs a part of a DECODE_NEXT, which first consumes at most one byte and then fails, goes on or
completes the frame; each frame rule is read from these few cases. -/

namespace Sys2Proof.Machine

open Sys2Proof

/-! ### The parts of a DECODE_NEXT -/

/-- What a part of a DECODE_NEXT can lead to from the state in which its byte has been consumed. -/
inductive PartEnds (u : State) : State → Prop where
  /-- An error is raised (60_exceptions.md R236). -/
  | fails (e : ResultCode) : PartEnds u (u.raise e)
  /-- The frame goes on, with a payload unit to be read next. -/
  | goesOn {w : Work} (busy : w ≠ .idle) : PartEnds u { u with work := w }
  /-- The frame is complete (42_run_state_machine.md R168, R169). -/
  | completes : PartEnds u u.completeFrame

/-- What a part of a DECODE_NEXT of a READY engine has written before it ends: at most one byte of the
stream is consumed, and only `FB` and the registers of the run are written. -/
structure PartConsumes (s u : State) : Prop where
  /-- A DECODE_NEXT reads the stream in `READY` alone (42_run_state_machine.md R161). -/
  ready : s.engineState = .ready
  /-- The registers that are written. -/
  eq : u = { s with
    fb := u.fb, cursor := u.cursor, currentAlgorithm := u.currentAlgorithm,
    remainingRepeats := u.remainingRepeats }
  /-- At most one byte is consumed, and only a byte that is there (10_state.md R36, R48). -/
  cursor : u.cursor = s.cursor ∨ u.cursor = s.cursor + 1 ∧ s.cursor < s.streamLength

theorem State.continueFrame_ends (s : State) (bound : Nat) {w : Work} (hw : w ≠ .idle) :
    PartEnds s (s.continueFrame bound w) := by
  obtain ⟨-, heq⟩ | ⟨-, heq⟩ := s.continueFrame_cases bound w <;> rw [heq]
  · exact .goesOn hw
  · exact .completes

theorem State.dispatch_ends (s : State) : PartEnds s s.dispatch := by
  obtain ⟨-, heq⟩ | ⟨-, heq⟩ | ⟨-, heq⟩ | ⟨-, heq⟩ := s.dispatch_cases <;> rw [heq]
  · obtain ⟨-, heq⟩ | ⟨-, -, heq⟩ | ⟨-, -, heq⟩ := s.beginVerbatim_cases <;> rw [heq]
    · exact .fails _
    · exact .goesOn (by simp)
    · exact .completes
  · exact s.continueFrame_ends _ (by simp)
  · exact s.continueFrame_ends _ (by simp)
  · exact .completes

/-- A painted token has consumed its byte and written the frame buffer. -/
theorem PartConsumes.paint {pixel : State → Nat → Bool → Except ResultCode State} (hp : PixelOp pixel)
    {s t : State} (hready : s.engineState = .ready) (hin : s.cursor < s.streamLength) {color : Bool}
    {len i : Nat} (hpaint : paint pixel color len i (s.advance 1) = .ok t) : PartConsumes s t := by
  rw [paint_ok hp hpaint]
  exact ⟨hready, rfl, .inr ⟨rfl, hin⟩⟩

/-- A part that writes nothing before it ends. -/
theorem PartConsumes.refl {s : State} (hready : s.engineState = .ready) : PartConsumes s s :=
  ⟨hready, rfl, .inl rfl⟩

/-- A token of either run-length algorithm, by what it can do: it is painted and its frame goes on or is
complete, or an error is raised. -/
theorem token_part {pixel : State → Nat → Bool → Except ResultCode State} (hp : PixelOp pixel)
    {s t : State} (hready : s.engineState = .ready) (hin : s.cursor < s.streamLength) {color : Bool}
    {len i bound : Nat} {w : Work} (hw : w ≠ .idle) {e : ResultCode}
    (h : (∃ u, paint pixel color len i (s.advance 1) = .ok u ∧ t = u.continueFrame bound w) ∨
      t = s.raise e) :
    ∃ u, PartConsumes s u ∧ PartEnds u t := by
  obtain ⟨u, hpaint, rfl⟩ | rfl := h
  · exact ⟨u, .paint hp hready hin hpaint, u.continueFrame_ends bound hw⟩
  · exact ⟨s, .refl hready, .fails e⟩

/-- What a step that goes on can do to the state, whichever unit or operation it runs. -/
theorem Stepped.cases {s t : State} (h : Stepped s t) :
    ((∃ data dbg, s.requests.head? = some (.construct data dbg)) ∧ t.work = .idle) ∨
    (s.work = .idle ∧ t = s) ∨
    (∃ r, t = s.respond r) ∨
    ∃ u, PartConsumes s u ∧ PartEnds u t := by
  cases h with
  | construct _ hreq _ => exact .inl ⟨⟨_, _, congrArg List.head? hreq⟩, rfl⟩
  | constructTruncated _ hreq _ => exact .inl ⟨⟨_, _, congrArg List.head? hreq⟩, rfl⟩
  | rest hidle _ => exact .inr (.inl ⟨hidle, rfl⟩)
  | stuck => exact .inr (.inr (.inl ⟨_, rfl⟩))
  | geometry => exact .inr (.inr (.inl ⟨_, rfl⟩))
  | noByte hcontext hunit _ =>
    exact .inr (.inr (.inr ⟨s, .refl (State.ready_of_context hcontext hunit), .fails _⟩))
  | selector hcontext hin _ =>
    have hready := State.ready_of_context hcontext (by decide)
    exact .inr (.inr (.inr ⟨_, ⟨hready, rfl, .inr ⟨rfl, hin⟩⟩, State.dispatch_ends _⟩))
  | rasterToken hcontext hin =>
    exact .inr (.inr (.inr (token_part rasterPixel_op (State.ready_of_context hcontext (by decide)) hin
      (by simp) (s.rasterToken_cases _ _))))
  | columnToken hcontext hin =>
    exact .inr (.inr (.inr (token_part columnPixel_op (State.ready_of_context hcontext (by decide)) hin
      (by simp) (s.columnToken_cases _ _))))
  | payloadByte hcontext hin _ =>
    have hready := State.ready_of_context hcontext (by decide)
    exact .inr (.inr (.inr ⟨_, ⟨hready, rfl, .inr ⟨rfl, hin⟩⟩, State.continueFrame_ends _ _ (by simp)⟩))
  | inRun _ _ hready _ =>
    exact .inr (.inr (.inr ⟨s.countRepeat, ⟨hready, rfl, .inl rfl⟩, State.dispatch_ends _⟩))

/-! ### What the parts leave unchanged -/

theorem State.sameInstance_refl (s : State) : s.sameInstance s := by
  simp only [State.sameInstance, and_self]

theorem State.sameInstance.trans {s t u : State} (hst : s.sameInstance t) (htu : t.sameInstance u) :
    s.sameInstance u := by
  obtain ⟨hw, hh, hfr, hbits, hbytes, hL, hstream, hdbg⟩ := hst
  simpa only [State.sameInstance, hw, hh, hfr, hbits, hbytes, hL, hstream, hdbg] using htu

theorem State.sameInstance_loadSelector (s : State) (a : Algorithm) (rep : Nat) :
    s.sameInstance (s.loadSelector a rep) := s.sameInstance_refl

theorem State.sameInstance_respond (s : State) (r : HostResult) : s.sameInstance (s.respond r) :=
  s.sameInstance_refl

theorem PartConsumes.sameInstance {s u : State} (h : PartConsumes s u) : s.sameInstance u := by
  rw [h.eq]
  exact s.sameInstance_refl

theorem PartEnds.sameInstance {u t : State} (h : PartEnds u t) : u.sameInstance t := by
  cases h <;> exact u.sameInstance_refl

/-- Unless it fails, a part's end moves neither `FB` nor `cursor`. -/
theorem PartEnds.fb_cursor_of_ready {u t : State} (h : PartEnds u t) (hready : t.engineState = .ready) :
    t.fb = u.fb ∧ t.cursor = u.cursor := by
  cases h with
  | fails => simp at hready
  | goesOn => exact ⟨rfl, rfl⟩
  | completes => exact ⟨rfl, rfl⟩

/-- A part that leaves its operation in progress writes the position alone. -/
theorem PartEnds.eq_of_busy {u t : State} (h : PartEnds u t) (hbusy : t.work ≠ .idle) :
    t = { u with work := t.work } := by
  cases h with
  | fails => exact absurd rfl hbusy
  | goesOn => rfl
  | completes => exact absurd rfl hbusy

/-! ### The obligations about what a step leaves unchanged -/

/-- Settles O23: every selector loads the run and starts the frame of its algorithm, and only an error
touches the frame buffer. -/
theorem selectorsStoreNothing : Obligations.SelectorsStoreNothing := by
  intro a rep s t hexec
  rw [exec_selector] at hexec
  obtain ⟨-, rfl⟩ := inContext_next hexec
  have hends := (s.loadSelector a rep).dispatch_ends
  have hsame := (s.sameInstance_loadSelector a rep).trans hends.sameInstance
  refine ⟨hsame, fun x => ?_, fun hready k => ?_⟩
  · obtain ⟨-, -, -, -, -, -, hstream, -⟩ := hsame
    rw [State.streamByte, hstream, State.streamByte]
  · rw [State.frameByte, (hends.fb_cursor_of_ready hready).1, State.loadSelector_fb, State.frameByte]

/-- Settles O34: the one step that ends with an operation in progress is a part of a DECODE_NEXT that
goes on, and it writes no register the host can see. -/
theorem nothingShowsBeforeTheOperationCompletes :
    Obligations.NothingShowsBeforeTheOperationCompletes := by
  intro s t hstep hbusy
  obtain ⟨-, hidle⟩ | ⟨hidle, rfl⟩ | ⟨r, rfl⟩ | ⟨u, hconsumes, hends⟩ := (step_next hstep).cases
  · exact absurd hidle hbusy
  · exact absurd hidle hbusy
  · exact absurd (s.respond_work r) hbusy
  · rw [hends.eq_of_busy hbusy, hconsumes.eq]
    exact ⟨rfl, rfl, rfl, fun name => by cases name <;> rfl⟩

/-- Settles O45: an answer keeps the engine state, and a part of a DECODE_NEXT runs in `READY` alone. -/
theorem onlyConstructLeavesFaulted : Obligations.OnlyConstructLeavesFaulted := by
  intro s t hstep hfaulted hleft
  obtain ⟨hconstruct, -⟩ | ⟨-, rfl⟩ | ⟨r, rfl⟩ | ⟨u, hconsumes, -⟩ := (step_next hstep).cases
  · exact hconstruct
  · exact absurd hfaulted hleft
  · exact absurd hfaulted hleft
  · exact absurd (hfaulted.symm.trans hconsumes.ready) (by decide)

/-- Settles O52: `cursor` moves where a part of a DECODE_NEXT consumes its byte, and nowhere else
unless it fails. -/
theorem cursorNeverMovesBack : Obligations.CursorNeverMovesBack := by
  intro s t hstep hno hready
  obtain ⟨⟨data, dbg, hreq⟩, -⟩ | ⟨-, rfl⟩ | ⟨r, rfl⟩ | ⟨u, hconsumes, hends⟩ := (step_next hstep).cases
  · exact absurd hreq (hno data dbg)
  · exact .inl rfl
  · exact .inl rfl
  · rw [(hends.fb_cursor_of_ready hready).2]
    exact hconsumes.cursor

/-- Settles O53: neither an answer nor a part of a DECODE_NEXT writes a register that
CONSTRUCT alone writes. -/
theorem onlyConstructWritesGeometryAndStream : Obligations.OnlyConstructWritesGeometryAndStream := by
  intro s t hstep hno
  obtain ⟨⟨data, dbg, hreq⟩, -⟩ | ⟨-, rfl⟩ | ⟨r, rfl⟩ | ⟨u, hconsumes, hends⟩ := (step_next hstep).cases
  · exact absurd hreq (hno data dbg)
  · exact t.sameInstance_refl
  · exact s.sameInstance_respond r
  · exact hconsumes.sameInstance.trans hends.sameInstance

end Sys2Proof.Machine

/-! `frame_rate` takes no part in decoding (40_header_parser.md R133). Every operation of a DECODE_NEXT
commutes with writing `frame_rate`, so a step does. -/

namespace Sys2Proof.Machine

open Sys2Proof

/-! ### A step does all that `Stepped` says -/

theorem Algorithm.ofCode_code (a : Algorithm) : Algorithm.ofCode a.code = some a := by
  cases a <;> rfl

/-- A step runs the unit that the byte at `cursor` is in the context of the state. -/
theorem step_eq_exec {s : State} {c : Context} {i : Instr} (hcontext : s.context = some c)
    (hunit : c ≠ .header) (hin : s.cursor < s.streamLength)
    (hdecode : decode c [s.streamByte s.cursor] = .ok i []) : step s = exec i s := by
  have hwindow : s.window c = [s.streamByte s.cursor] := by
    rw [s.window_of_ne_header hunit, if_pos hin]
  simp only [step, State.nextAction, hcontext, hwindow, hdecode]

/-- A step that needs a unit past the end of the stream raises `TruncatedStream`. -/
theorem step_noByte {s : State} {c : Context} (hcontext : s.context = some c) (hunit : c ≠ .header)
    (hend : s.streamLength ≤ s.cursor) : step s = .next (s.raise .truncatedStream) := by
  have hwindow : s.window c = [] := by rw [s.window_of_ne_header hunit, if_neg (by omega)]
  have hdecode : decode c [] = .bad .noByte := by
    cases c with
    | header => exact absurd rfl hunit
    | selector | raster | column | verbatim => rfl
  simp only [step, State.nextAction, hcontext, hwindow, hdecode, State.truncated]

/-- The cases of a step of a DECODE_NEXT exclude each other: each is what the step does. -/
theorem Stepped.step_eq {s t : State} (h : Stepped s t) (hreq : s.requests.head? = some .decodeNext) :
    step s = .next t := by
  cases h with
  | construct _ hconstruct _ => simp [hconstruct] at hreq
  | constructTruncated _ hconstruct _ => simp [hconstruct] at hreq
  | noByte hcontext hunit hend => exact step_noByte hcontext hunit hend
  | selector hcontext hin halg =>
    rw [step_eq_exec hcontext (by decide) hin rfl, decodeSelector, ← halg, Algorithm.ofCode_code]
    exact (exec_selector _ _ s).trans (inContext_of_context hcontext)
  | rasterToken hcontext hin =>
    rw [step_eq_exec hcontext (by decide) hin rfl]
    exact inContext_of_context hcontext
  | columnToken hcontext hin =>
    rw [step_eq_exec hcontext (by decide) hin rfl]
    exact inContext_of_context hcontext
  | payloadByte hcontext hin hframe =>
    rw [step_eq_exec hcontext (by decide) hin rfl]
    exact (if_neg fun hpast => by omega).trans (inContext_of_context hcontext)
  | rest _ hnone => simp [hnone] at hreq
  | stuck hidle hdecode hfaulted =>
    have hcontext : s.context = none := by simp only [State.context, hidle, hdecode, hfaulted]
    simp only [step, State.nextAction, hcontext, State.hostAction, hidle, hdecode, hfaulted, if_true]
  | inRun hidle hdecode hready hrep => exact step_inRun hidle hdecode hready hrep
  | geometry _ hread _ => simp [hread] at hreq

/-! ### The pixel operations, by whether the index is in the frame -/

theorem State.setBit_of_lt {s : State} {j : Nat} {v : Bool} (hj : j < s.frameBitCount.toNat) :
    s.setBit j v = .ok (s.setFrameByte (bitByte j)
      (if v then s.frameByte (bitByte j) ||| bitMask j else s.frameByte (bitByte j) &&& ~~~(bitMask j))) :=
  if_pos hj

theorem State.setBit_of_not_lt {s : State} {j : Nat} {v : Bool} (hj : ¬ j < s.frameBitCount.toNat) :
    s.setBit j v = .error .bitIndexOutOfRange :=
  if_neg hj

theorem columnPixel_of_lt {s : State} {i : Nat} {v : Bool} (hi : i < s.frameBitCount.toNat) :
    columnPixel s i v = s.setPixel (i / s.height.toNat) (i % s.height.toNat) v :=
  if_neg (Nat.not_le.2 hi)

theorem columnPixel_of_not_lt {s : State} {i : Nat} {v : Bool} (hi : ¬ i < s.frameBitCount.toNat) :
    columnPixel s i v = .error .bitIndexOutOfRange :=
  if_pos (Nat.not_lt.1 hi)

/-! ### The operations of DECODE_NEXT commute with a write to `frame_rate` -/

/-- `s` with another frame rate. -/
def State.withFrameRate (s : State) (fr : BitVec 8) : State := { s with frameRate := fr }

@[simp] theorem State.withFrameRate_currentAlgorithm (s : State) (fr : BitVec 8) :
    (s.withFrameRate fr).currentAlgorithm = s.currentAlgorithm := rfl
@[simp] theorem State.withFrameRate_frameBitCount (s : State) (fr : BitVec 8) :
    (s.withFrameRate fr).frameBitCount = s.frameBitCount := rfl
@[simp] theorem State.withFrameRate_frameByteCount (s : State) (fr : BitVec 8) :
    (s.withFrameRate fr).frameByteCount = s.frameByteCount := rfl
@[simp] theorem State.withFrameRate_cursor (s : State) (fr : BitVec 8) :
    (s.withFrameRate fr).cursor = s.cursor := rfl
@[simp] theorem State.withFrameRate_streamLength (s : State) (fr : BitVec 8) :
    (s.withFrameRate fr).streamLength = s.streamLength := rfl

theorem State.setBit_withFrameRate (s : State) (fr : BitVec 8) (j : Nat) (v : Bool) :
    (s.withFrameRate fr).setBit j v = (s.setBit j v).map (·.withFrameRate fr) := by
  by_cases hj : j < s.frameBitCount.toNat
  · rw [State.setBit_of_lt hj, State.setBit_of_lt (s := s.withFrameRate fr) hj]
    rfl
  · rw [State.setBit_of_not_lt hj, State.setBit_of_not_lt (s := s.withFrameRate fr) hj]
    rfl

theorem rasterPixel_withFrameRate (s : State) (fr : BitVec 8) (i : Nat) (v : Bool) :
    rasterPixel (s.withFrameRate fr) i v = (rasterPixel s i v).map (·.withFrameRate fr) :=
  s.setBit_withFrameRate fr i v

theorem columnPixel_withFrameRate (s : State) (fr : BitVec 8) (i : Nat) (v : Bool) :
    columnPixel (s.withFrameRate fr) i v = (columnPixel s i v).map (·.withFrameRate fr) := by
  by_cases hi : i < s.frameBitCount.toNat
  · rw [columnPixel_of_lt hi, columnPixel_of_lt (s := s.withFrameRate fr) hi]
    exact s.setBit_withFrameRate fr _ v
  · rw [columnPixel_of_not_lt hi, columnPixel_of_not_lt (s := s.withFrameRate fr) hi]
    rfl

theorem paint_withFrameRate {pixel : State → Nat → Bool → Except ResultCode State} {fr : BitVec 8}
    (hpixel : ∀ s i v, pixel (s.withFrameRate fr) i v = (pixel s i v).map (·.withFrameRate fr))
    (color : Bool) (len i : Nat) (s : State) :
    paint pixel color len i (s.withFrameRate fr) = (paint pixel color len i s).map (·.withFrameRate fr) := by
  induction len generalizing i s with
  | zero => rfl
  | succ len ih =>
    simp only [paint, hpixel]
    cases pixel s i color with
    | ok t => exact ih (i + 1) t
    | error e => rfl

theorem State.continueFrame_withFrameRate (s : State) (fr : BitVec 8) (bound : Nat) (w : Work) :
    (s.withFrameRate fr).continueFrame bound w = (s.continueFrame bound w).withFrameRate fr := by
  unfold State.continueFrame
  split <;> rfl

theorem State.beginVerbatim_withFrameRate (s : State) (fr : BitVec 8) :
    (s.withFrameRate fr).beginVerbatim = s.beginVerbatim.withFrameRate fr := by
  simp only [State.beginVerbatim, State.withFrameRate_cursor, State.withFrameRate_frameByteCount,
    State.withFrameRate_streamLength, State.continueFrame_withFrameRate]
  split <;> rfl

theorem State.dispatch_withFrameRate (s : State) (fr : BitVec 8) :
    (s.withFrameRate fr).dispatch = s.dispatch.withFrameRate fr := by
  simp only [State.dispatch, State.withFrameRate_currentAlgorithm]
  split
  · exact s.beginVerbatim_withFrameRate fr
  · rfl
  · exact s.continueFrame_withFrameRate fr _ _
  · exact s.continueFrame_withFrameRate fr _ _
  all_goals rfl

theorem State.rasterToken_withFrameRate (s : State) (fr : BitVec 8) (color : Bool) (len : Nat) :
    (s.withFrameRate fr).rasterToken color len = (s.rasterToken color len).withFrameRate fr := by
  have hpaint : paint rasterPixel color len (s.withFrameRate fr).work.position ((s.withFrameRate fr).advance 1) =
      (paint rasterPixel color len s.work.position (s.advance 1)).map (·.withFrameRate fr) :=
    paint_withFrameRate (fun s i v => rasterPixel_withFrameRate s fr i v) color len s.work.position
      (s.advance 1)
  simp only [State.rasterToken, hpaint]
  cases paint rasterPixel color len s.work.position (s.advance 1) with
  | ok t => exact t.continueFrame_withFrameRate fr _ _
  | error e => rfl

theorem State.columnToken_withFrameRate (s : State) (fr : BitVec 8) (color : Bool) (len : Nat) :
    (s.withFrameRate fr).columnToken color len = (s.columnToken color len).withFrameRate fr := by
  have hpaint : paint columnPixel color len (s.withFrameRate fr).work.position ((s.withFrameRate fr).advance 1) =
      (paint columnPixel color len s.work.position (s.advance 1)).map (·.withFrameRate fr) :=
    paint_withFrameRate (fun s i v => columnPixel_withFrameRate s fr i v) color len s.work.position
      (s.advance 1)
  simp only [State.columnToken, hpaint]
  cases paint columnPixel color len s.work.position (s.advance 1) with
  | ok t => exact t.continueFrame_withFrameRate fr _ _
  | error e => rfl

/-- What a step of a DECODE_NEXT can do, it can do with every frame rate. -/
theorem Stepped.withFrameRate {s t : State} (h : Stepped s t) (hreq : s.requests.head? = some .decodeNext)
    (fr : BitVec 8) : Stepped (s.withFrameRate fr) (t.withFrameRate fr) := by
  cases h with
  | construct _ hconstruct _ => simp [hconstruct] at hreq
  | constructTruncated _ hconstruct _ => simp [hconstruct] at hreq
  | noByte hcontext hunit hend => exact .noByte (s := s.withFrameRate fr) hcontext hunit hend
  | selector hcontext hin halg =>
    rw [← State.dispatch_withFrameRate]
    exact .selector (s := s.withFrameRate fr) hcontext hin halg
  | rasterToken hcontext hin =>
    rw [← State.rasterToken_withFrameRate]
    exact .rasterToken (s := s.withFrameRate fr) hcontext hin
  | columnToken hcontext hin =>
    rw [← State.columnToken_withFrameRate]
    exact .columnToken (s := s.withFrameRate fr) hcontext hin
  | payloadByte hcontext hin hframe =>
    rw [State.payloadByte, ← State.continueFrame_withFrameRate]
    exact .payloadByte (s := s.withFrameRate fr) hcontext hin hframe
  | rest _ hnone => simp [hnone] at hreq
  | stuck hidle hdecode hfaulted => exact .stuck (s := s.withFrameRate fr) hidle hdecode hfaulted
  | inRun hidle hdecode hready hrep =>
    rw [State.repeatFrame, ← State.dispatch_withFrameRate]
    exact .inRun (s := s.withFrameRate fr) hidle hdecode hready hrep
  | geometry _ hread _ => simp [hread] at hreq

/-! ### The obligation about `frame_rate` -/

/-- Settles O55: with the other frame rate the step can do the same, and a step does what it can. -/
theorem frameRateDoesNotAffectDecoding : Obligations.FrameRateDoesNotAffectDecoding := by
  intro s t fr hreq hstep
  exact ((step_next hstep).withFrameRate hreq fr).step_eq hreq

end Sys2Proof.Machine

/-! The canonical form is unique: the first cell of a canonical memory is its least address that does not
read as `Memory.unlisted`, so what a memory reads says which cells it lists (log 8). -/

namespace Sys2Proof.Machine

open Sys2Proof

/-- The first cell of a canonical memory is not below that of one that reads alike. -/
theorem Memory.head_le_of_read_eq {lo lo' a a' : Nat} {b b' : Byte} {m m' : Memory}
    (h : Memory.wfFrom lo ((a, b) :: m) = true) (h' : Memory.wfFrom lo' ((a', b') :: m') = true)
    (hread : ∀ k, Memory.read ((a, b) :: m) k = Memory.read ((a', b') :: m') k) : a' ≤ a := by
  by_contra hlt
  obtain ⟨-, hb', hm'⟩ := Memory.wfFrom_cons.1 h'
  have hfrom : Memory.wfFrom a' ((a', b') :: m') = true := Memory.wfFrom_cons.2 ⟨le_rfl, hb', hm'⟩
  exact Memory.read_head h ((hread a).trans (Memory.read_eq_zero_of_wfFrom hfrom (by omega)))

theorem Memory.eq_of_read_eq {m m' : Memory} {lo : Nat} (h : Memory.wfFrom lo m = true)
    (h' : Memory.wfFrom lo m' = true) (hread : ∀ k, Memory.read m k = Memory.read m' k) : m = m' := by
  induction m generalizing m' lo with
  | nil =>
    cases m' with
    | nil => rfl
    | cons c' m' => exact absurd (hread c'.1).symm (Memory.read_head h')
  | cons c m ih =>
    obtain ⟨a, b⟩ := c
    cases m' with
    | nil => exact absurd (hread a) (Memory.read_head h)
    | cons c' m' =>
      obtain ⟨a', b'⟩ := c'
      obtain rfl : a = a' :=
        le_antisymm (Memory.head_le_of_read_eq h' h fun k => (hread k).symm)
          (Memory.head_le_of_read_eq h h' hread)
      obtain ⟨-, -, hm⟩ := Memory.wfFrom_cons.1 h
      obtain ⟨-, -, hm'⟩ := Memory.wfFrom_cons.1 h'
      have hbyte : b = b' := by simpa using hread a
      have htail : ∀ k, Memory.read m k = Memory.read m' k := fun k => by
        by_cases hk : a = k
        · rw [Memory.read_eq_zero_of_wfFrom hm (by omega), Memory.read_eq_zero_of_wfFrom hm' (by omega)]
        · simpa only [Memory.read_cons, if_neg hk] using hread k
      rw [hbyte, ih hm hm' htail]

/-- Settles O10. -/
theorem canonicalMemoriesThatReadAlikeAreEqual : Obligations.CanonicalMemoriesThatReadAlikeAreEqual :=
  fun _ _ => Memory.eq_of_read_eq

end Sys2Proof.Machine

/-! Delivered results stay as they are (20_memory.md R79, 60_exceptions.md R240): of all a step can do,
only an answer writes the results, and it puts one result before them. -/

namespace Sys2Proof.Machine

open Sys2Proof

/-- `t` is `s` with nothing delivered, or with one more result for the oldest request. -/
def DeliversAtMostOne (s t : State) : Prop :=
  (t.results = s.results ∧ t.requests = s.requests) ∨
    ∃ r, t.results = r :: s.results ∧ t.requests = s.requests.tail

theorem PartEnds.delivers {u t : State} (h : PartEnds u t) : DeliversAtMostOne u t := by
  cases h with
  | fails e => exact .inr ⟨_, rfl, rfl⟩
  | goesOn => exact .inl ⟨rfl, rfl⟩
  | completes => exact .inr ⟨_, rfl, rfl⟩

/-- What a part of a DECODE_NEXT writes before it ends is no result and no request. -/
theorem PartConsumes.delivers {s u t : State} (h : PartConsumes s u) (hends : PartEnds u t) :
    DeliversAtMostOne s t := by
  have hresults : u.results = s.results := by rw [h.eq]
  have hrequests : u.requests = s.requests := by rw [h.eq]
  simpa only [DeliversAtMostOne, hresults, hrequests] using hends.delivers

theorem Stepped.delivers {s t : State} (h : Stepped s t) : DeliversAtMostOne s t := by
  cases h with
  | construct | constructTruncated | noByte | stuck | geometry => exact .inr ⟨_, rfl, rfl⟩
  | rest => exact .inl ⟨rfl, rfl⟩
  | selector | inRun => exact (State.dispatch_ends _).delivers
  | payloadByte => exact (State.continueFrame_ends _ _ (by simp)).delivers
  | rasterToken hcontext hin =>
    obtain ⟨u, hconsumes, hends⟩ := token_part rasterPixel_op (State.ready_of_context hcontext (by decide))
      hin (by simp) (s.rasterToken_cases _ _)
    exact hconsumes.delivers hends
  | columnToken hcontext hin =>
    obtain ⟨u, hconsumes, hends⟩ := token_part columnPixel_op (State.ready_of_context hcontext (by decide))
      hin (by simp) (s.columnToken_cases _ _)
    exact hconsumes.delivers hends

/-- Settles O48: the result says which of the two a step that goes on does. -/
theorem deliveredResultsNeverChange : Obligations.DeliveredResultsNeverChange :=
  fun _ _ hstep => (step_next hstep).delivers

end Sys2Proof.Machine

/-! The steps of a DECODE_NEXT perform the atomic transaction of 42_run_state_machine.md R171 (log 3). The
first step runs the selector or the repeat and starts the frame; from there each payload unit is one round
of the algorithm's own loop. The loops of Machine/Transaction.lean never set `work`, the steps do, so the
operations must not depend on it. -/

namespace Sys2Proof.Machine

open Sys2Proof

/-! ### How a DECODE_NEXT ends -/

/-- Ends a DECODE_NEXT that began in `s` with what its algorithm gives: the frame is complete, or an error
is raised (42_run_state_machine.md R168, R174). -/
def State.finish (s : State) : FrameResult → State
  | .ok u => u.completeFrame
  | .error e => s.raise e

theorem State.decodeNextReady_of_ok {s t : State} (h : s.selectorOrRepeat = .ok t) :
    s.decodeNextReady = s.finish t.algorithmFrame := by
  simp only [State.decodeNextReady, h]
  cases t.algorithmFrame with
  | ok u => rfl
  | error e => rfl

theorem State.decodeNextReady_of_error {s : State} {e : ResultCode} (h : s.selectorOrRepeat = .error e) :
    s.decodeNextReady = s.raise e := by
  simp only [State.decodeNextReady, h]

/-- An error leaves the same state wherever in the DECODE_NEXT it is raised: what a part of it consumes is
what an error makes unspecified (60_exceptions.md R238, log 4). -/
theorem PartConsumes.raise_eq {s u : State} (h : PartConsumes s u) (e : ResultCode) :
    u.raise e = s.raise e := by
  rw [h.eq]
  rfl

theorem PartConsumes.finish_eq {s u : State} (h : PartConsumes s u) (r : FrameResult) :
    u.finish r = s.finish r := by
  cases r with
  | ok t => rfl
  | error e => exact h.raise_eq e

/-! ### The operations do not depend on `work` -/

/-- `s` with another operation in progress. -/
def State.withWork (s : State) (w : Work) : State := { s with work := w }

theorem State.withWork_continueFrame (s : State) (w v : Work) (bound : Nat) :
    (s.withWork w).continueFrame bound v = s.continueFrame bound v := rfl

theorem State.continueFrame_of_lt {s : State} {bound : Nat} {w : Work} (h : w.position < bound) :
    s.continueFrame bound w = s.withWork w :=
  if_pos h

theorem State.continueFrame_of_not_lt {s : State} {bound : Nat} {w : Work} (h : ¬ w.position < bound) :
    s.continueFrame bound w = s.completeFrame :=
  if_neg h

theorem State.setBit_withWork (s : State) (w : Work) (j : Nat) (v : Bool) :
    (s.withWork w).setBit j v = (s.setBit j v).map (·.withWork w) := by
  by_cases hj : j < s.frameBitCount.toNat
  · rw [State.setBit_of_lt hj, State.setBit_of_lt (s := s.withWork w) hj]
    rfl
  · rw [State.setBit_of_not_lt hj, State.setBit_of_not_lt (s := s.withWork w) hj]
    rfl

theorem columnPixel_withWork (s : State) (w : Work) (i : Nat) (v : Bool) :
    columnPixel (s.withWork w) i v = (columnPixel s i v).map (·.withWork w) := by
  by_cases hi : i < s.frameBitCount.toNat
  · rw [columnPixel_of_lt hi, columnPixel_of_lt (s := s.withWork w) hi]
    exact s.setBit_withWork w _ v
  · rw [columnPixel_of_not_lt hi, columnPixel_of_not_lt (s := s.withWork w) hi]
    rfl

/-- A change of the state that the pixel operation commutes with, a token's pixel loop commutes with. -/
theorem paint_map {pixel : State → Nat → Bool → Except ResultCode State} {f : State → State}
    (hpixel : ∀ s i v, pixel (f s) i v = (pixel s i v).map f) (color : Bool) (len i : Nat) (s : State) :
    paint pixel color len i (f s) = (paint pixel color len i s).map f := by
  induction len generalizing i s with
  | zero => rfl
  | succ len ih =>
    simp only [paint, hpixel]
    cases pixel s i color with
    | ok t => exact ih (i + 1) t
    | error e => rfl

/-! ### The token loop, for both run-length algorithms -/

/-- What the two token rows have in common: the pixel operation, the context, where the position stands
in `work`, and the step that reads a token. -/
structure TokenRow (pixel : State → Nat → Bool → Except ResultCode State) (c : Context) (w : Nat → Work) :
    Prop where
  op : PixelOp pixel
  withWork : ∀ s v i b, pixel (s.withWork v) i b = (pixel s i b).map (·.withWork v)
  unit : c ≠ .header
  position : ∀ i, (w i).position = i
  context : ∀ {s : State} {i : Nat}, s.work = w i → s.engineState = .ready → s.context = some c
  /-- A token that fits: the frame goes on or is complete. -/
  step_ok : ∀ {s t : State} {i : Nat}, s.work = w i → s.engineState = .ready → s.cursor < s.streamLength →
    paint pixel (tokenColor (s.streamByte s.cursor)) (tokenLength (s.streamByte s.cursor)) i (s.advance 1) =
      .ok t →
    step s = .next (t.continueFrame t.frameBitCount.toNat (w (i + tokenLength (s.streamByte s.cursor))))
  /-- A token that overshoots (43_algorithms.md R203, R209). -/
  step_error : ∀ {s : State} {e : ResultCode} {i : Nat}, s.work = w i → s.engineState = .ready →
    s.cursor < s.streamLength →
    paint pixel (tokenColor (s.streamByte s.cursor)) (tokenLength (s.streamByte s.cursor)) i (s.advance 1) =
      .error e →
    step s = .next (s.raise e)

theorem step_rasterToken {s : State} (hcontext : s.context = some .raster) (hin : s.cursor < s.streamLength) :
    step s = .next
      (s.rasterToken (tokenColor (s.streamByte s.cursor)) (tokenLength (s.streamByte s.cursor))) :=
  (step_eq_exec hcontext (by decide) hin rfl).trans (inContext_of_context hcontext)

theorem step_columnToken {s : State} (hcontext : s.context = some .column) (hin : s.cursor < s.streamLength) :
    step s = .next
      (s.columnToken (tokenColor (s.streamByte s.cursor)) (tokenLength (s.streamByte s.cursor))) :=
  (step_eq_exec hcontext (by decide) hin rfl).trans (inContext_of_context hcontext)

theorem rasterRow : TokenRow rasterPixel .raster .raster where
  op := rasterPixel_op
  withWork := State.setBit_withWork
  unit := by decide
  position _ := rfl
  context hwork hready := State.context_raster.2 ⟨⟨_, hwork⟩, hready⟩
  step_ok hwork hready hin hpaint := by
    rw [step_rasterToken (State.context_raster.2 ⟨⟨_, hwork⟩, hready⟩) hin]
    simp only [State.rasterToken, hwork, Work.position, hpaint]
  step_error hwork hready hin hpaint := by
    rw [step_rasterToken (State.context_raster.2 ⟨⟨_, hwork⟩, hready⟩) hin]
    simp only [State.rasterToken, hwork, Work.position, hpaint]

theorem columnRow : TokenRow columnPixel .column .column where
  op := columnPixel_op
  withWork := columnPixel_withWork
  unit := by decide
  position _ := rfl
  context hwork hready := State.context_column.2 ⟨⟨_, hwork⟩, hready⟩
  step_ok hwork hready hin hpaint := by
    rw [step_columnToken (State.context_column.2 ⟨⟨_, hwork⟩, hready⟩) hin]
    simp only [State.columnToken, hwork, Work.position, hpaint]
  step_error hwork hready hin hpaint := by
    rw [step_columnToken (State.context_column.2 ⟨⟨_, hwork⟩, hready⟩) hin]
    simp only [State.columnToken, hwork, Work.position, hpaint]

section TokenLoop

variable {pixel : State → Nat → Bool → Except ResultCode State}

theorem tokenLoop_of_not_lt {remaining i : Nat} {s : State} (h : ¬ i < s.frameBitCount.toNat) :
    tokenLoop pixel remaining i s = .ok s := by
  cases remaining <;> exact if_neg h

theorem tokenLoop_zero {i : Nat} {s : State} (h : i < s.frameBitCount.toNat) :
    tokenLoop pixel 0 i s = .error .truncatedStream :=
  if_pos h

theorem tokenLoop_succ_of_ok {remaining i : Nat} {s t : State} (h : i < s.frameBitCount.toNat)
    (hpaint : paint pixel (tokenColor (s.streamByte s.cursor)) (tokenLength (s.streamByte s.cursor)) i
      (s.advance 1) = .ok t) :
    tokenLoop pixel (remaining + 1) i s =
      tokenLoop pixel remaining (i + tokenLength (s.streamByte s.cursor)) t := by
  rw [tokenLoop, if_pos h]
  simp only [hpaint]

theorem tokenLoop_succ_of_error {remaining i : Nat} {s : State} {e : ResultCode}
    (h : i < s.frameBitCount.toNat)
    (hpaint : paint pixel (tokenColor (s.streamByte s.cursor)) (tokenLength (s.streamByte s.cursor)) i
      (s.advance 1) = .error e) :
    tokenLoop pixel (remaining + 1) i s = .error e := by
  rw [tokenLoop, if_pos h]
  simp only [hpaint]

variable {c : Context} {w : Nat → Work}

/-- A step that reads a token is one round of the token loop: both paint the same pixels. -/
theorem TokenRow.round (row : TokenRow pixel c w) {i : Nat} {s : State} (hready : s.engineState = .ready)
    (hin : s.cursor < s.streamLength) :
    (∃ t, paint pixel (tokenColor (s.streamByte s.cursor)) (tokenLength (s.streamByte s.cursor)) i
        (s.advance 1) = .ok t ∧
      step (s.withWork (w i)) =
        .next (t.continueFrame t.frameBitCount.toNat (w (i + tokenLength (s.streamByte s.cursor))))) ∨
    ∃ e, paint pixel (tokenColor (s.streamByte s.cursor)) (tokenLength (s.streamByte s.cursor)) i
        (s.advance 1) = .error e ∧
      step (s.withWork (w i)) = .next (s.raise e) := by
  have hpaint := paint_map (f := (·.withWork (w i))) (fun s => row.withWork s (w i))
    (tokenColor (s.streamByte s.cursor)) (tokenLength (s.streamByte s.cursor)) i (s.advance 1)
  cases hround : paint pixel (tokenColor (s.streamByte s.cursor)) (tokenLength (s.streamByte s.cursor)) i
      (s.advance 1) with
  | ok t =>
    rw [hround] at hpaint
    have hstep := row.step_ok (s := s.withWork (w i)) rfl hready hin hpaint
    rw [State.withWork_continueFrame] at hstep
    exact .inl ⟨t, rfl, hstep⟩
  | error e =>
    rw [hround] at hpaint
    exact .inr ⟨e, rfl, row.step_error (s := s.withWork (w i)) rfl hready hin hpaint⟩

/-- From count `i` on, the steps run the token loop: one for each token, and one more where the stream ends
before the frame does. -/
theorem TokenRow.run_tokenLoop (row : TokenRow pixel c w) (remaining i : Nat) {s : State}
    (hready : s.engineState = .ready) (hremaining : s.streamLength - s.cursor = remaining) :
    ∃ n ≤ remaining + 1, Sys2Proof.core.run n (s.continueFrame s.frameBitCount.toNat (w i)) =
      .next (s.finish (tokenLoop pixel remaining i s)) := by
  induction remaining generalizing i s with
  | zero =>
    by_cases hi : i < s.frameBitCount.toNat
    · rw [State.continueFrame_of_lt ((row.position i).symm ▸ hi), tokenLoop_zero hi]
      have hend : step (s.withWork (w i)) = .next (s.raise .truncatedStream) :=
        step_noByte (row.context (i := i) rfl hready) row.unit (Nat.sub_eq_zero_iff_le.1 hremaining)
      exact ⟨1, le_rfl, run_succ hend⟩
    · rw [State.continueFrame_of_not_lt ((row.position i).symm ▸ hi), tokenLoop_of_not_lt hi]
      exact ⟨0, Nat.zero_le _, rfl⟩
  | succ remaining ih =>
    by_cases hi : i < s.frameBitCount.toNat
    · rw [State.continueFrame_of_lt ((row.position i).symm ▸ hi)]
      have hin : s.cursor < s.streamLength := by omega
      obtain ⟨t, hpaint, hstep⟩ | ⟨e, hpaint, hstep⟩ := row.round (i := i) hready hin
      · have hconsumes : PartConsumes s t := .paint row.op hready hin hpaint
        have htready : t.engineState = .ready := by rw [hconsumes.eq]; exact hready
        have hrest : t.streamLength - t.cursor = remaining := by
          rw [paint_ok row.op hpaint]
          simp only [State.advance_streamLength, State.advance_cursor]
          omega
        obtain ⟨n, hn, hrun⟩ := ih (i + tokenLength (s.streamByte s.cursor)) htready hrest
        rw [tokenLoop_succ_of_ok hi hpaint, ← hconsumes.finish_eq]
        exact ⟨n + 1, by omega, (run_succ hstep).trans hrun⟩
      · rw [tokenLoop_succ_of_error hi hpaint]
        exact ⟨1, by omega, run_succ hstep⟩
    · rw [State.continueFrame_of_not_lt ((row.position i).symm ▸ hi), tokenLoop_of_not_lt hi]
      exact ⟨0, Nat.zero_le _, rfl⟩

end TokenLoop

/-! ### The Verbatim payload -/

theorem State.advance_advance (s : State) (m n : Nat) : (s.advance m).advance n = s.advance (m + n) := by
  simp only [State.advance, Nat.add_assoc]

theorem State.copyFrom_advance (s : State) (n k : Nat) (bs : List Byte) :
    (s.advance n).copyFrom k bs = (s.copyFrom k bs).advance n := by
  induction bs generalizing s k with
  | nil => rfl
  | cons b bs ih => exact ih (s.setFrameByte k b) (k + 1)

theorem step_payloadByte {s : State} {k : Nat} (hwork : s.work = .verbatim k) (hready : s.engineState = .ready)
    (hin : s.cursor < s.streamLength) (hk : k < s.frameByteCount.toNat) :
    step s = .next (s.payloadByte (s.streamByte s.cursor)) := by
  have hcontext : s.context = some .verbatim := State.context_verbatim.2 ⟨⟨k, hwork⟩, hready⟩
  have hframe : s.work.position < s.frameByteCount.toNat := by rw [hwork]; exact hk
  rw [step_eq_exec hcontext (by decide) hin rfl]
  exact (if_neg fun hpast => by omega).trans (inContext_of_context hcontext)

/-- From byte `k` on, the steps copy the rest of the payload, one byte each. -/
theorem run_payload (remaining k : Nat) {s : State} (hready : s.engineState = .ready)
    (hframe : k + remaining = s.frameByteCount.toNat) (hfits : s.cursor + remaining ≤ s.streamLength) :
    Sys2Proof.core.run remaining (s.continueFrame s.frameByteCount.toNat (.verbatim k)) =
      .next ((s.copyFrom k (Memory.readBytes s.stream s.cursor remaining)).advance remaining).completeFrame := by
  induction remaining generalizing k s with
  | zero =>
    rw [State.continueFrame_of_not_lt (by simp only [Work.position]; omega)]
    rfl
  | succ remaining ih =>
    rw [State.continueFrame_of_lt (by simp only [Work.position]; omega)]
    have hstep := step_payloadByte (s := s.withWork (.verbatim k)) rfl hready
      (show s.cursor < s.streamLength by omega) (show k < s.frameByteCount.toNat by omega)
    have hrun := ih (k + 1) (s := (s.setFrameByte k (s.streamByte s.cursor)).advance 1) hready
      (by simp only [State.advance_frameByteCount, State.setFrameByte_frameByteCount]; omega)
      (by simp only [State.advance_cursor, State.advance_streamLength, State.setFrameByte_cursor,
            State.setFrameByte_streamLength]; omega)
    rw [State.copyFrom_advance, State.advance_advance, Nat.add_comm 1] at hrun
    exact (run_succ hstep).trans hrun

/-! ### The frame and the operation -/

/-- From the dispatch on, the steps perform step 3 of R171. -/
theorem State.run_dispatch {s : State} (hready : s.engineState = .ready) :
    ∃ n ≤ s.streamLength - s.cursor + 1,
      Sys2Proof.core.run n s.dispatch = .next (s.finish s.algorithmFrame) := by
  obtain ⟨a, ha, -⟩ := Algorithm.ofCode_bits s.currentAlgorithm
  simp only [State.dispatch, State.algorithmFrame, ha]
  cases a with
  | verbatim =>
    by_cases hlong : s.cursor + s.frameByteCount.toNat > s.streamLength
    · simp only [State.beginVerbatim, State.verbatimFrame, if_pos hlong]
      exact ⟨0, Nat.zero_le _, rfl⟩
    · simp only [State.beginVerbatim, State.verbatimFrame, if_neg hlong]
      exact ⟨s.frameByteCount.toNat, by omega, run_payload _ 0 hready (Nat.zero_add _) (by omega)⟩
  | rlRaster => exact rasterRow.run_tokenLoop _ 0 hready rfl
  | rlColumn => exact columnRow.run_tokenLoop _ 0 hready rfl
  | identical | reserved4 | reserved5 | reserved6 | reserved7 => exact ⟨0, Nat.zero_le _, rfl⟩

theorem State.atDecodeNext.decodeNext_eq {s : State} (h : s.atDecodeNext) :
    s.decodeNext = .next s.decodeNextReady := by
  obtain ⟨-, -, hready⟩ := h
  simp only [State.decodeNext, hready]

/-- The first step of a DECODE_NEXT performs steps 1 and 2 of R171 and the dispatch. -/
theorem State.atDecodeNext.first_step {s : State} (h : s.atDecodeNext) :
    (s.selectorOrRepeat = .error .truncatedStream ∧ step s = .next (s.raise .truncatedStream)) ∨
    ∃ u, s.selectorOrRepeat = .ok u ∧ PartConsumes s u ∧ step s = .next u.dispatch := by
  obtain ⟨hidle, hreq, hready⟩ := h
  obtain ⟨ops, hops⟩ := List.head?_eq_some_iff.1 hreq
  by_cases hrep : s.remainingRepeats = 0
  · have hcontext : s.context = some .selector :=
      State.context_selector.2 ⟨hidle, ⟨ops, hops⟩, hready, hrep⟩
    by_cases hend : s.cursor ≥ s.streamLength
    · simp only [State.selectorOrRepeat, if_pos hrep, if_pos hend]
      exact .inl ⟨trivial, step_noByte hcontext (by decide) hend⟩
    · have hin : s.cursor < s.streamLength := Nat.not_le.1 hend
      obtain ⟨a, -, halg⟩ := decodeSelector_eq (s.streamByte s.cursor)
      simp only [State.selectorOrRepeat, if_pos hrep, if_neg hend, ← halg]
      exact .inr ⟨_, rfl, ⟨hready, rfl, .inr ⟨rfl, hin⟩⟩,
        (Stepped.selector hcontext hin halg).step_eq hreq⟩
  · simp only [State.selectorOrRepeat, if_neg hrep]
    exact .inr ⟨_, rfl, ⟨hready, rfl, .inl rfl⟩, step_inRun hidle hops hready hrep⟩

/-- Settles O33: the first step, then the steps of the frame it starts. -/
theorem stepsPerformTheAtomicDecodeNext : Obligations.StepsPerformTheAtomicDecodeNext := by
  intro s h
  rw [h.decodeNext_eq]
  obtain ⟨hfetch, hstep⟩ | ⟨u, hfetch, hconsumes, hstep⟩ := h.first_step
  · rw [State.decodeNextReady_of_error hfetch]
    exact ⟨1, le_rfl, by omega, run_succ hstep⟩
  · obtain ⟨n, hn, hrun⟩ := State.run_dispatch (s := u) (by rw [hconsumes.eq]; exact hconsumes.ready)
    rw [State.decodeNextReady_of_ok hfetch, ← hconsumes.finish_eq]
    have hlength : u.streamLength = s.streamLength := by rw [hconsumes.eq]
    have hcursor := hconsumes.cursor
    exact ⟨n + 1, by omega, by omega, (run_succ hstep).trans hrun⟩

end Sys2Proof.Machine

/-! Encoding and decoding. A byte is its fields: `alg` and `rep` at a selector position, colour and length
in a payload (30_encoding.md R93, R97, R98). The fields of a byte written from operands in range are the
operands, and a byte written from its own fields is the byte; both readings of the encoding tables follow. -/

namespace Sys2Proof

open Machine

/-! ### The fields of a byte -/

theorem selectorAlg_eq (b : Byte) : selectorAlg b = b.toNat / 32 := by
  simp only [selectorAlg, BitVec.extractLsb'_toNat, Nat.shiftRight_eq_div_pow]
  omega

theorem selectorRep_eq (b : Byte) : selectorRep b = b.toNat % 32 := by
  simp only [selectorRep, BitVec.extractLsb'_toNat, Nat.shiftRight_zero]

theorem tokenLength_eq (b : Byte) : tokenLength b = b.toNat % 128 + 1 := by
  simp only [tokenLength, BitVec.extractLsb'_toNat, Nat.shiftRight_zero]

theorem tokenColor_eq (b : Byte) : tokenColor b = decide (b.toNat / 128 = 1) := by
  simp only [tokenColor, BitVec.getLsbD, Nat.testBit_eq_decide_div_mod_eq]
  exact decide_eq_decide.2 (by omega)

/-! ### The units of a selector position -/

@[simp] theorem Algorithm.context_selector (a : Algorithm) (rep : Nat) :
    (a.selector rep).context = .selector := by
  cases a <;> rfl

@[simp] theorem Algorithm.wf_selector (a : Algorithm) (rep : Nat) : (a.selector rep).wf = repOk rep := by
  cases a <;> rfl

@[simp] theorem Algorithm.encode_selector (a : Algorithm) (rep : Nat) :
    encode (a.selector rep) = encodeSelector a rep := by
  cases a <;> rfl

theorem Algorithm.code_lt (a : Algorithm) : a.code < 8 := by
  cases a <;> decide

/-- Case analysis on a unit that takes the eight selector rows as one (30_encoding.md R94). -/
theorem Instr.casesSelector {motive : Instr → Prop} (header : ∀ w h fr, motive (.header w h fr))
    (selector : ∀ (a : Algorithm) rep, motive (a.selector rep))
    (tokRaster : ∀ color len, motive (.tokRaster color len))
    (tokColumn : ∀ color len, motive (.tokColumn color len)) (bytes : ∀ b, motive (.bytes b)) (i : Instr) :
    motive i := by
  cases i with
  | header w h fr => exact header w h fr
  | selVerbatim rep => exact selector .verbatim rep
  | selIdentical rep => exact selector .identical rep
  | selRlRaster rep => exact selector .rlRaster rep
  | selRlColumn rep => exact selector .rlColumn rep
  | selReserved4 rep => exact selector .reserved4 rep
  | selReserved5 rep => exact selector .reserved5 rep
  | selReserved6 rep => exact selector .reserved6 rep
  | selReserved7 rep => exact selector .reserved7 rep
  | tokRaster color len => exact tokRaster color len
  | tokColumn color len => exact tokColumn color len
  | bytes b => exact bytes b

/-- A byte whose top three bits number `a` is the selector of `a` (30_encoding.md R93, R94). -/
theorem decode_selector_of_code {a : Algorithm} {b : Byte} (h : b.toNat / 32 = a.code) (rest : List Byte) :
    decode .selector (b :: rest) = .ok (a.selector (b.toNat % 32)) rest := by
  simp only [decode, decodeSelector, selectorAlg_eq, h, Algorithm.ofCode_code, selectorRep_eq]

/-! ### Fields written and read back -/

theorem bigEndian_extract (v : BitVec 16) : bigEndian (v.extractLsb' 8 8) (v.extractLsb' 0 8) = v :=
  BitVec.extractLsb'_append_extractLsb'_eq_extractLsb' (by decide) |>.trans BitVec.extractLsb'_eq_self

theorem extract_bigEndian (hi lo : Byte) :
    (bigEndian hi lo).extractLsb' 8 8 = hi ∧ (bigEndian hi lo).extractLsb' 0 8 = lo :=
  ⟨BitVec.extractLsb'_append_eq_left, BitVec.extractLsb'_append_eq_right⟩

/-- The byte of a selector has its operands as fields, if the repeat count fits. -/
theorem decode_encodeSelector (a : Algorithm) {rep : Nat} (hrep : rep ≤ 31) (rest : List Byte) :
    decode .selector (encodeSelector a rep ++ rest) = .ok (a.selector rep) rest := by
  have hcode := a.code_lt
  have hbyte : (BitVec.ofNat 8 (a.code * 32 + rep)).toNat = a.code * 32 + rep :=
    BitVec.toNat_ofNat .. |>.trans (Nat.mod_eq_of_lt (by omega))
  have hdecode := decode_selector_of_code (a := a) (b := BitVec.ofNat 8 (a.code * 32 + rep))
    (by omega) rest
  rwa [hbyte, show (a.code * 32 + rep) % 32 = rep by omega] at hdecode

/-- A selector byte is written again from its fields. -/
theorem encodeSelector_fields {a : Algorithm} {b : Byte} (ha : a.code = selectorAlg b) :
    encodeSelector a (selectorRep b) = [b] := by
  rw [encodeSelector, ha, selectorAlg_eq, selectorRep_eq, Nat.mul_comm, Nat.div_add_mod,
    BitVec.ofNat_toNat, BitVec.setWidth_eq]

/-- The byte of a token (30_encoding.md R106). -/
def tokenByte (color : Bool) (len : Nat) : Byte := BitVec.ofNat 8 (color.toNat * 128 + (len - 1))

theorem encodeToken_eq (color : Bool) (len : Nat) : encodeToken color len = [tokenByte color len] := rfl

/-- The byte of a token has its operands as fields, if the length is in range. -/
theorem tokenByte_fields (color : Bool) {len : Nat} (hpos : 1 ≤ len) (hle : len ≤ 128) :
    tokenColor (tokenByte color len) = color ∧ tokenLength (tokenByte color len) = len := by
  have hcolor : color.toNat ≤ 1 := Bool.toNat_le color
  have hbyte : (tokenByte color len).toNat = color.toNat * 128 + (len - 1) :=
    BitVec.toNat_ofNat .. |>.trans (Nat.mod_eq_of_lt (by omega))
  have hdiv : (tokenByte color len).toNat / 128 = color.toNat := by omega
  refine ⟨?_, by rw [tokenLength_eq]; omega⟩
  rw [tokenColor_eq, hdiv]
  cases color <;> rfl

/-- A token byte is written again from its fields. -/
theorem tokenByte_of_fields (b : Byte) : tokenByte (tokenColor b) (tokenLength b) = b := by
  have hcolor : (tokenColor b).toNat = b.toNat / 128 := by
    rw [tokenColor_eq]
    by_cases hbit : b.toNat / 128 = 1
    · rw [hbit]; rfl
    · rw [decide_eq_false hbit, Bool.toNat_false]; omega
  rw [tokenByte, hcolor, tokenLength_eq, Nat.add_sub_cancel, Nat.mul_comm, Nat.div_add_mod,
    BitVec.ofNat_toNat, BitVec.setWidth_eq]

theorem lenOk_iff {len : Nat} : lenOk len = true ↔ 1 ≤ len ∧ len ≤ 128 := by
  simp only [lenOk, Bool.and_eq_true, decide_eq_true_eq]

theorem repOk_iff {rep : Nat} : repOk rep = true ↔ rep ≤ 31 := decide_eq_true_iff

theorem lenOk_tokenLength (b : Byte) : lenOk (tokenLength b) = true := by
  rw [lenOk_iff, tokenLength_eq]
  omega

/-- Every byte is one unit of every context but the header's, and the unit writes that byte
(30_encoding.md R103, R104). -/
theorem exists_unit_of_byte {c : Context} (hc : c ≠ .header) (b : Byte) :
    ∃ i : Instr, (∀ rest, decode c (b :: rest) = .ok i rest) ∧ i.wf = true ∧ i.context = c ∧
      encode i = [b] := by
  cases c with
  | header => exact absurd rfl hc
  | selector =>
    obtain ⟨a, hunit, hcode⟩ := decodeSelector_eq b
    refine ⟨a.selector (selectorRep b), fun rest => by rw [decode, hunit], ?_, a.context_selector _, ?_⟩
    · rw [a.wf_selector, repOk_iff]
      exact selectorRep_le b
    · rw [a.encode_selector, encodeSelector_fields hcode]
  | raster =>
    exact ⟨.tokRaster (tokenColor b) (tokenLength b), fun _ => rfl, lenOk_tokenLength b, rfl,
      congrArg ([·]) (tokenByte_of_fields b)⟩
  | column =>
    exact ⟨.tokColumn (tokenColor b) (tokenLength b), fun _ => rfl, lenOk_tokenLength b, rfl,
      congrArg ([·]) (tokenByte_of_fields b)⟩
  | verbatim => exact ⟨.bytes b, fun _ => rfl, rfl, rfl, rfl⟩

theorem decode_nil_ne_ok {i : Instr} {rest : List Byte} (c : Context) : decode c [] ≠ .ok i rest := by
  cases c <;> nofun

/-! ### The obligations about single units -/

/-- Settles O1: a byte written from operands in range has the operands as its fields. -/
theorem decodeOfEncodeIsTheUnit : Obligations.DecodeOfEncodeIsTheUnit := by
  intro i rest hwf
  cases i using Instr.casesSelector with
  | header w h fr =>
    simp only [Instr.context, encode, List.cons_append, List.nil_append, decode, bigEndian_extract]
  | selector a rep =>
    rw [a.context_selector, a.encode_selector]
    exact decode_encodeSelector a (repOk_iff.1 (a.wf_selector rep ▸ hwf)) rest
  | tokRaster color len | tokColumn color len =>
    obtain ⟨hpos, hle⟩ := lenOk_iff.1 hwf
    obtain ⟨hcolor, hlen⟩ := tokenByte_fields color hpos hle
    simp only [Instr.context, encode, encodeToken_eq, List.cons_append, List.nil_append, decode, hcolor,
      hlen]
  | bytes b => rfl

/-- Settles O2: what is read is the fields of the bytes, and they write the same bytes again. -/
theorem encodeOfDecodeIsTheBytes : Obligations.EncodeOfDecodeIsTheBytes := by
  intro c bs rest i hdecode
  by_cases hc : c = .header
  · subst hc
    obtain ⟨b0, b1, b2, b3, b4, rfl, rfl⟩ := decode_header_ok hdecode
    obtain ⟨hw1, hw0⟩ := extract_bigEndian b0 b1
    obtain ⟨hh1, hh0⟩ := extract_bigEndian b2 b3
    exact ⟨rfl, rfl, by simp only [encode, hw1, hw0, hh1, hh0, List.cons_append, List.nil_append]⟩
  · cases bs with
    | nil => exact absurd hdecode (decode_nil_ne_ok c)
    | cons b bs =>
      obtain ⟨j, hj, hwf, hcontext, hencode⟩ := exists_unit_of_byte hc b
      obtain ⟨rfl, rfl⟩ := Decoded.ok.inj ((hj bs).symm.trans hdecode)
      exact ⟨hwf, hcontext, congrArg (· ++ bs) hencode⟩

/-- Settles O3: each word is evaluated in its context. -/
theorem wordsDecodeAsTheTablesSay : Obligations.WordsDecodeAsTheTablesSay := by
  unfold Obligations.WordsDecodeAsTheTablesSay
  decide

/-- Settles O4: each clause is one algorithm. -/
theorem everyByteIsASelector : Obligations.EveryByteIsASelector := fun _ rest =>
  ⟨fun h => decode_selector_of_code (a := .verbatim) h rest,
    fun h => decode_selector_of_code (a := .identical) h rest,
    fun h => decode_selector_of_code (a := .rlRaster) h rest,
    fun h => decode_selector_of_code (a := .rlColumn) h rest,
    fun h => decode_selector_of_code (a := .reserved4) h rest,
    fun h => decode_selector_of_code (a := .reserved5) h rest,
    fun h => decode_selector_of_code (a := .reserved6) h rest,
    fun h => decode_selector_of_code (a := .reserved7) h rest⟩

/-- Settles O5: both contexts read the same two fields. -/
theorem tokenLengthIsLowSevenBitsPlusOne : Obligations.TokenLengthIsLowSevenBitsPlusOne := by
  intro t rest
  refine ⟨tokenColor t, tokenLength t, rfl, rfl, tokenColor_eq t, tokenLength_eq t,
    Nat.one_le_iff_ne_zero.1 (tokenLength_pos t), ?_, ?_⟩
  · rintro (rfl | rfl) <;> rfl
  · rintro (rfl | rfl) <;> rfl

end Sys2Proof

/-! What the next step runs: the unit that the context and the bytes in its window decode to
(30_encoding.md R101), also where the bytes are a placed word of the opcode table (log 7); outside its
context a unit is refused (log 9). -/

namespace Sys2Proof.Machine

open Sys2Proof

/-! ### The unit of a CONSTRUCT -/

/-- A step of a CONSTRUCT runs the header that its data begins with (40_header_parser.md R122). -/
theorem step_eq_exec_header {s : State} {data rest : List Byte} {dbg : BitVec 8} {ops : List HostOp}
    {i : Instr} (hidle : s.work = .idle) (hreq : s.requests = .construct data dbg :: ops)
    (hdecode : decode .header data = .ok i rest) : step s = exec i s := by
  have hcontext : s.context = some .header := State.context_header.2 ⟨hidle, data, dbg, ops, hreq⟩
  simp only [step, State.nextAction, hcontext, State.window_header hreq, hdecode]

/-! ### A word of the opcode table -/

/-- The decoder of table words reads 40 bits as a header and 8 bits as a selector, and nothing else (log 7). -/
theorem decodeTableWord_eq_some {nbits w : Nat} {i : Instr} (h : decodeTableWord nbits w = some i) :
    (nbits = 40 ∧ ∃ rest, decode .header (tableBytes 5 w) = .ok i rest) ∨
      (nbits = 8 ∧ decode .selector [BitVec.ofNat 8 w] = .ok i []) := by
  unfold decodeTableWord at h
  split at h
  · cases h
  · rename_i c hc
    simp only [tableContext] at hc
    split_ifs at hc with h40 h8
    · subst h40
      obtain rfl := Option.some.inj hc
      split at h
      · rename_i j rest hdecode
        obtain rfl := Option.some.inj h
        exact .inl ⟨rfl, rest, hdecode⟩
      · cases h
    · subst h8
      obtain rfl := Option.some.inj hc
      have hbytes : tableBytes (8 / 8) w = [BitVec.ofNat 8 w] := by simp [tableBytes]
      rw [hbytes] at h
      exact .inr ⟨rfl, congrArg (Decoded.ok · []) (Option.some.inj h)⟩

theorem State.withFetchWord_header (s : State) (w : Nat) :
    s.withFetchWord 40 w =
      { s with work := .idle, requests := .construct (tableBytes 5 w) 0 :: s.requests } := rfl

theorem State.withFetchWord_selector (s : State) (w : Nat) :
    s.withFetchWord 8 w =
      { s with
        work := .idle
        requests := .decodeNext :: s.requests
        engineState := .ready
        remainingRepeats := 0
        stream := Memory.write s.stream s.cursor (BitVec.ofNat 8 w)
        streamLength := max s.streamLength (s.cursor + 1) } := rfl

/-- A placed selector stands in the stream, and the engine reads a selector next. -/
theorem State.withFetchWord_selector_placed {s : State} (hwf : Memory.wf s.stream = true) (w : Nat) :
    (s.withFetchWord 8 w).context = some .selector ∧
      (s.withFetchWord 8 w).cursor < (s.withFetchWord 8 w).streamLength ∧
      (s.withFetchWord 8 w).streamByte (s.withFetchWord 8 w).cursor = BitVec.ofNat 8 w := by
  rw [s.withFetchWord_selector]
  exact ⟨State.context_selector.2 ⟨rfl, ⟨_, rfl⟩, rfl, rfl⟩, Nat.lt_of_succ_le (Nat.le_max_right _ _),
    (Memory.read_write hwf _ _ _).trans (if_pos rfl)⟩

/-! ### Units outside their context -/

theorem inContext_of_ne {c : Context} {s t : State} (h : s.context ≠ some c) :
    inContext c s t = .refused .outOfContext :=
  if_neg h

/-- A header is refused unless a CONSTRUCT is to be performed. -/
theorem execHeader_refused {s : State} (h : s.context ≠ some .header) (width height : BitVec 16)
    (fr : BitVec 8) : execHeader width height fr s = .refused .outOfContext := by
  unfold execHeader
  split
  · exact inContext_of_ne h
  · rfl

/-- A payload byte faults at a position past the frame buffer (20_memory.md R63, log 13). -/
theorem execBytes_of_past {s : State} (b : Byte) (hcontext : s.context = some .verbatim)
    (hpast : s.frameByteCount.toNat ≤ s.work.position) :
    execBytes b s = .fault (.frameByteOutOfRange s.work.position) :=
  if_pos ⟨hcontext, hpast⟩

/-- A payload byte faults only where a payload byte is read; elsewhere it is refused as any unit is. -/
theorem execBytes_refused {s : State} (b : Byte) (h : s.context ≠ some .verbatim) :
    execBytes b s = .refused .outOfContext :=
  (if_neg fun hpast => h hpast.1).trans (inContext_of_ne h)

/-! ### The obligations about fetch and context -/

/-- Settles O7: a stream unit, then the header of a CONSTRUCT. -/
theorem stepRunsTheDecodedUnit : Obligations.StepRunsTheDecodedUnit :=
  ⟨fun _ _ _ => step_eq_exec, fun _ _ _ _ _ _ => step_eq_exec_header⟩

/-- Settles O8: a header word is the data of the CONSTRUCT that is requested next, a selector word the byte
at `cursor`. -/
theorem placedWordIsTheNextUnit : Obligations.PlacedWordIsTheNextUnit := by
  intro s nbits w i hwf hword
  obtain ⟨rfl, rest, hdecode⟩ | ⟨rfl, hdecode⟩ := decodeTableWord_eq_some hword
  · rw [s.withFetchWord_header]
    exact step_eq_exec_header rfl rfl hdecode
  · obtain ⟨hcontext, hin, hbyte⟩ := State.withFetchWord_selector_placed hwf w
    exact step_eq_exec hcontext (by decide) hin (hbyte.symm ▸ hdecode)

/-- Settles O32: every unit but a payload byte is refused by its context alone. -/
theorem unitOutsideItsContextIsRefused : Obligations.UnitOutsideItsContextIsRefused := by
  refine ⟨fun i s h => ?_, fun b s k ⟨hwork, hready⟩ hpast => ?_⟩
  · cases i using Instr.casesSelector with
    | header width height fr => exact execHeader_refused h width height fr
    | selector a rep =>
      rw [exec_selector]
      exact inContext_of_ne (a.context_selector rep ▸ h)
    | tokRaster color len | tokColumn color len => exact inContext_of_ne h
    | bytes b => exact execBytes_refused b h
  · have hposition : s.work.position = k := congrArg Work.position hwork
    subst hposition
    exact execBytes_of_past b (State.context_verbatim.2 ⟨⟨_, hwork⟩, hready⟩) hpast

end Sys2Proof.Machine

/-! A uniform run paints the frame (30_encoding.md R107, 95_test_vectors.md V4). `RUN c, n` is a list of
token lengths; SetBit writes one bit, so the pixel loop of a token writes the bits from its count on, and
the tokens of a list of lengths paint one range of bits after the other. -/

namespace Sys2Proof.Machine

open Sys2Proof

/-! ### The tokens of a run -/

/-- The token lengths of a `RUN` of `n` pixels (30_encoding.md R107). -/
def runLengths (n : Nat) : List Nat :=
  List.replicate (n / 128) 128 ++ if 0 < n % 128 then [n % 128] else []

theorem expandRun_eq_map (tok : Bool → Nat → Instr) (color : Bool) (n : Nat) :
    expandRun tok color n = (runLengths n).map (tok color) := by
  simp only [expandRun, runLengths, List.map_append, List.map_replicate]
  split <;> rfl

theorem runLengths_sum (n : Nat) : (runLengths n).sum = n := by
  simp only [runLengths, List.sum_append, List.sum_replicate, smul_eq_mul]
  split_ifs with h <;> simp only [List.sum_singleton, List.sum_nil] <;> omega

theorem runLengths_bounds {n len : Nat} (h : len ∈ runLengths n) : 1 ≤ len ∧ len ≤ 128 := by
  simp only [runLengths, List.mem_append, List.mem_replicate] at h
  obtain ⟨-, rfl⟩ | h := h
  · omega
  · split_ifs at h with hpos
    · obtain rfl := List.mem_singleton.1 h
      omega
    · cases h

theorem runLengths_length (n : Nat) : (runLengths n).length = (n + 127) / 128 := by
  simp only [runLengths, List.length_append, List.length_replicate]
  split_ifs with h <;> simp only [List.length_singleton, List.length_nil] <;> omega

/-- Settles O6. -/
theorem runExpandsIntoTokensOfItsLength : Obligations.RunExpandsIntoTokensOfItsLength := fun color n =>
  ⟨runLengths n, expandRun_eq_map _ color n, expandRun_eq_map _ color n, runLengths_sum n,
    fun _ => runLengths_bounds, runLengths_length n⟩

/-- The bytes of a run of raster tokens. -/
theorem flatMap_encode_expandRun (color : Bool) (n : Nat) :
    (expandRun .tokRaster color n).flatMap encode = (runLengths n).map (tokenByte color) := by
  rw [expandRun_eq_map, List.flatMap_map]
  exact List.flatMap_pure_eq_map (tokenByte color) (runLengths n)

/-! ### One bit of the frame buffer -/

/-- The mask of a bit has that bit of its byte and no other (20_memory.md R66). -/
theorem bitMask_getLsbD (j j' : Nat) :
    (bitMask j).getLsbD (bitInByte j') = decide (j' % 8 = j % 8) := by
  have hbit : ∀ m < 8, ∀ m' < 8, (0x80#8 >>> m).getLsbD (7 - m') = decide (m' = m) := by decide
  exact hbit (j % 8) (by omega) (j' % 8) (by omega)

theorem bitInByte_lt (j : Nat) : bitInByte j < 8 := by
  simp only [bitInByte]
  omega

/-- The byte that SetBit stores has the bit of the mask set to the value, and the others as they were. -/
theorem getLsbD_masked (b : Byte) (j j' : Nat) (v : Bool) :
    (if v then b ||| bitMask j else b &&& ~~~(bitMask j)).getLsbD (bitInByte j') =
      if j' % 8 = j % 8 then v else b.getLsbD (bitInByte j') := by
  have hrange := bitInByte_lt j'
  cases v with
  | true =>
    rw [if_pos rfl, BitVec.getLsbD_or, bitMask_getLsbD]
    split_ifs with h <;> simp only [h, decide_true, decide_false, Bool.or_true, Bool.or_false]
  | false =>
    rw [if_neg Bool.false_ne_true, BitVec.getLsbD_and, BitVec.getLsbD_not, bitMask_getLsbD,
      decide_eq_true hrange, Bool.true_and]
    split_ifs with h <;>
      simp only [h, decide_true, decide_false, Bool.not_true, Bool.not_false, Bool.and_true, Bool.and_false]

/-- SetBit at an index in the frame writes that linear bit and no other (41_frame_buffer.md R141). -/
theorem State.setBit_spec {s : State} (hwf : Memory.wf s.fb = true) {j : Nat} (v : Bool)
    (hj : j < s.frameBitCount.toNat) :
    ∃ t, s.setBit j v = .ok t ∧ Memory.wf t.fb = true ∧
      ∀ j', t.frameBit j' = if j' = j then v else s.frameBit j' := by
  refine ⟨_, State.setBit_of_lt hj, Memory.wf_write hwf _ _, fun j' => ?_⟩
  simp only [State.frameBit, State.frameByte, State.setFrameByte_fb, Memory.read_write hwf]
  by_cases hbyte : bitByte j' = bitByte j
  · have hsame : j' % 8 = j % 8 ↔ j' = j := by
      simp only [bitByte] at hbyte
      omega
    rw [if_pos hbyte, hbyte, getLsbD_masked]
    exact if_congr hsame rfl rfl
  · rw [if_neg hbyte, if_neg fun h => hbyte (congrArg bitByte h)]

/-! ### A range of bits -/

/-- `t` is `s` with the linear bits from `i` on, `len` of them, in one colour, and no other bit changed. -/
def State.PaintedFrom (s t : State) (i len : Nat) (color : Bool) : Prop :=
  ∀ j, t.frameBit j = if i ≤ j ∧ j < i + len then color else s.frameBit j

/-- Two ranges painted one after the other are one range. -/
theorem State.PaintedFrom.trans {s t u : State} {i len len' : Nat} {color : Bool}
    (hst : s.PaintedFrom t i len color) (htu : t.PaintedFrom u (i + len) len' color) :
    s.PaintedFrom u i (len + len') color := by
  intro j
  by_cases hlater : i + len ≤ j
  · rw [htu j, hst j, if_neg (show ¬(i ≤ j ∧ j < i + len) by omega)]
    exact if_congr (by omega) rfl rfl
  · rw [htu j, hst j, if_neg (show ¬(i + len ≤ j ∧ j < i + len + len') by omega)]
    exact if_congr (by omega) rfl rfl

/-- A token of algorithm 2 that fits paints the linear bits from its count on (43_algorithms.md R197). -/
theorem paint_raster_spec (color : Bool) (len i : Nat) {s : State} (hwf : Memory.wf s.fb = true)
    (hfits : i + len ≤ s.frameBitCount.toNat) :
    ∃ t, paint rasterPixel color len i s = .ok t ∧ Memory.wf t.fb = true ∧
      s.PaintedFrom t i len color := by
  induction len generalizing i s with
  | zero => exact ⟨s, rfl, hwf, fun j => (if_neg (by omega)).symm⟩
  | succ len ih =>
    obtain ⟨t, hpixel, hwft, hbit⟩ := State.setBit_spec hwf color (show i < s.frameBitCount.toNat by omega)
    have hcount : t.frameBitCount = s.frameBitCount := by rw [(State.setBit_ok hpixel).2]; rfl
    obtain ⟨u, hpaint, hwfu, hrest⟩ := ih (i + 1) hwft (by rw [hcount]; omega)
    have hfirst : s.PaintedFrom t i 1 color := fun j => by
      rw [hbit j]
      exact if_congr (by omega) rfl rfl
    refine ⟨u, ?_, hwfu, Nat.add_comm len 1 ▸ hfirst.trans hrest⟩
    simp only [paint, rasterPixel, hpixel]
    exact hpaint

/-! ### The tokens of one colour -/

/-- The token loop of algorithm 2 over tokens of one colour that fill the frame from count `i` on consumes
exactly these tokens and paints their pixels. -/
theorem tokenLoop_uniform (color : Bool) (lens : List Nat) (remaining i : Nat) {s : State}
    (hwf : Memory.wf s.fb = true) (hbounds : ∀ len ∈ lens, 1 ≤ len ∧ len ≤ 128)
    (hsum : i + lens.sum = s.frameBitCount.toNat) (hremaining : lens.length ≤ remaining)
    (hbytes : Memory.readBytes s.stream s.cursor lens.length = lens.map (tokenByte color)) :
    ∃ t, tokenLoop rasterPixel remaining i s = .ok t ∧ t.cursor = s.cursor + lens.length ∧
      s.PaintedFrom t i lens.sum color := by
  induction lens generalizing i s remaining with
  | nil =>
    rw [List.sum_nil] at hsum
    exact ⟨s, tokenLoop_of_not_lt (by omega), rfl, fun j => (if_neg (by simp)).symm⟩
  | cons len lens ih =>
    obtain ⟨⟨hpos, hle⟩, hbounds⟩ := List.forall_mem_cons.1 hbounds
    obtain ⟨(hbyte : s.streamByte s.cursor = tokenByte color len), hbytes⟩ := List.cons.inj hbytes
    rw [List.sum_cons] at hsum ⊢
    rw [List.length_cons] at hremaining ⊢
    obtain ⟨hcolor, hlen⟩ := tokenByte_fields color hpos hle
    rw [← hbyte] at hcolor hlen
    obtain ⟨t, hpaint, hwft, hpainted⟩ := paint_raster_spec color len i (s := s.advance 1) hwf
      (show i + len ≤ s.frameBitCount.toNat by omega)
    have hframe := paint_ok rasterPixel_op hpaint
    obtain ⟨remaining, rfl⟩ := Nat.exists_eq_add_of_le' (Nat.one_le_of_lt hremaining)
    obtain ⟨u, hloop, hcursor, hrest⟩ := ih remaining (i + len) (s := t) hwft hbounds
      (by rw [hframe, Nat.add_assoc]; exact hsum) (by omega) (by rw [hframe]; exact hbytes)
    refine ⟨u, ?_, ?_, State.PaintedFrom.trans (s := s) hpainted hrest⟩
    · rw [← hcolor, ← hlen] at hpaint
      rw [tokenLoop_succ_of_ok (by omega) hpaint, hlen]
      exact hloop
    · rw [hcursor, hframe, State.advance_cursor]
      omega

/-- Bytes that stand at an address are the bytes read there. -/
theorem Memory.readBytes_eq_of_getElem? {m : Memory} {a : Nat} {bs : List Byte}
    (h : ∀ k, k < bs.length → bs[k]? = some (Memory.read m (a + k))) :
    Memory.readBytes m a bs.length = bs := by
  induction bs generalizing a with
  | nil => rfl
  | cons b bs ih =>
    have hhead : b = Memory.read m a := Option.some.inj (h 0 (Nat.zero_lt_succ _))
    have htail := ih (a := a + 1) fun k hk => by
      rw [Nat.add_right_comm]
      exact h (k + 1) (Nat.succ_lt_succ hk)
    rw [List.length_cons, Memory.readBytes, htail, ← hhead]

/-- Settles O41: the run is tokens of one colour that fill the frame from count 0. -/
theorem uniformRunPaintsTheFrame : Obligations.UniformRunPaintsTheFrame := by
  intro s color bs hwf hbs hin hstream
  rw [flatMap_encode_expandRun] at hbs
  have hlength : bs.length = (runLengths s.frameBitCount.toNat).length := by rw [hbs, List.length_map]
  have hbytes := (Memory.readBytes_eq_of_getElem? hstream).trans hbs
  rw [hlength] at hin hbytes ⊢
  obtain ⟨t, hframe, hcursor, hpainted⟩ := tokenLoop_uniform color (runLengths s.frameBitCount.toNat)
    (s.streamLength - s.cursor) 0 hwf (fun _ => runLengths_bounds)
    (by rw [runLengths_sum, Nat.zero_add]) (by omega) hbytes
  rw [runLengths_sum] at hpainted
  exact ⟨t, hframe, hcursor, fun j hj => (hpainted j).trans (if_pos (by omega))⟩

end Sys2Proof.Machine

/-! CONSTRUCT, READ_GEOMETRY and the refusals (40_header_parser.md). Each case of a host operation that reads
no stream unit has its step said once; with the steps of the units, what a step can do (`Stepped`) is what it
does, and an engine that meets the invariant can always do something unless no decoder exists where one is needed. -/

namespace Sys2Proof.Machine

open Sys2Proof

/-! ### The steps of CONSTRUCT -/

/-- `.header` performs the CONSTRUCT that is requested, in whatever state the engine is (R130, R131). -/
theorem exec_header {s : State} {data : List Byte} {dbg : BitVec 8} {ops : List HostOp}
    (hidle : s.work = .idle) (hreq : s.requests = .construct data dbg :: ops) (w h : BitVec 16)
    (fr : BitVec 8) : exec (.header w h fr) s = .next (s.construct w h fr data dbg) := by
  simp only [exec, execHeader, hreq]
  exact inContext_of_context (State.context_header.2 ⟨hidle, data, dbg, ops, hreq⟩)

theorem step_construct {s : State} {data rest : List Byte} {dbg : BitVec 8} {ops : List HostOp}
    {b0 b1 b2 b3 b4 : Byte} (hidle : s.work = .idle) (hreq : s.requests = .construct data dbg :: ops)
    (hdata : data = b0 :: b1 :: b2 :: b3 :: b4 :: rest) :
    step s = .next (s.construct (bigEndian b0 b1) (bigEndian b2 b3) b4 data dbg) := by
  have hdecode : decode .header data = .ok (.header (bigEndian b0 b1) (bigEndian b2 b3) b4) rest := by
    rw [hdata]
    rfl
  rw [step_eq_exec_header hidle hreq hdecode]
  exact exec_header hidle hreq _ _ _

theorem decode_header_short {data : List Byte} (h : data.length < 5) :
    decode .header data = .bad .shortHeader := by
  cases hdecode : decode .header data with
  | ok i rest =>
    obtain ⟨b0, b1, b2, b3, b4, rfl, -⟩ := decode_header_ok hdecode
    simp only [List.length_cons] at h
    omega
  | bad e => rw [(decode_header_bad hdecode).2]

theorem step_constructTruncated {s : State} {data : List Byte} {dbg : BitVec 8} {ops : List HostOp}
    (hidle : s.work = .idle) (hreq : s.requests = .construct data dbg :: ops) (hshort : data.length < 5) :
    step s = .next s.constructTruncated := by
  have hcontext : s.context = some .header := State.context_header.2 ⟨hidle, data, dbg, ops, hreq⟩
  simp only [step, State.nextAction, hcontext, State.window_header hreq, decode_header_short hshort,
    State.truncated]

/-- Data of five bytes or more begins with a header (R122). -/
theorem exists_header_of_five_le {data : List Byte} (h : 5 ≤ data.length) :
    ∃ b0 b1 b2 b3 b4 rest, data = b0 :: b1 :: b2 :: b3 :: b4 :: rest := by
  cases hdecode : decode .header data with
  | ok i rest =>
    obtain ⟨b0, b1, b2, b3, b4, hdata, -⟩ := decode_header_ok hdecode
    exact ⟨b0, b1, b2, b3, b4, rest, hdata⟩
  | bad e => exact absurd (decode_header_bad hdecode).1 (Nat.not_lt.2 h)

/-- High byte first (30_encoding.md R91). -/
theorem bigEndian_toNat (hi lo : Byte) : (bigEndian hi lo).toNat = hi.toNat * 256 + lo.toNat := by
  rw [bigEndian, BitVec.toNat_append, ← Nat.shiftLeft_add_eq_or_of_lt lo.isLt, Nat.shiftLeft_eq]

/-! ### The steps of the other operations that read no unit -/

theorem step_of_no_request {s : State} (hidle : s.work = .idle) (hreq : s.requests = []) :
    step s = .next s := by
  have hcontext : s.context = none := by simp only [State.context, hidle, hreq]
  simp only [step, State.nextAction, hcontext, State.hostAction, hidle, hreq, if_true]

theorem step_readGeometry {s : State} {name : Geometry} {ops : List HostOp} (hidle : s.work = .idle)
    (hreq : s.requests = .readGeometry name :: ops) (hconstructed : s.engineState ≠ .unconstructed) :
    step s = .next (s.respond (.value (s.geometry name))) := by
  have hcontext : s.context = none := by simp only [State.context, hidle, hreq]
  cases hstate : s.engineState with
  | unconstructed => exact absurd hstate hconstructed
  | ready | faulted =>
    simp only [step, State.nextAction, hcontext, State.hostAction, hidle, hreq, hstate, if_true]

theorem step_of_needsInstance {s : State} (hidle : s.work = .idle) (h : s.needsInstance) :
    step s = .refused .unconstructed := by
  obtain ⟨hstate, hhead | ⟨name, hhead⟩⟩ := h <;> obtain ⟨ops, hreq⟩ := List.head?_eq_some_iff.1 hhead
  all_goals
    have hcontext : s.context = none := by simp only [State.context, hidle, hreq, hstate]
    simp only [step, State.nextAction, hcontext, State.hostAction, hidle, hreq, hstate, if_true]

/-! ### What a step can do is what it does -/

/-- The cases of a step exclude each other, whatever is requested. -/
theorem Stepped.step_eq_next {s t : State} (h : Stepped s t) : step s = .next t := by
  cases h with
  | construct hidle hreq hdata => exact step_construct hidle hreq hdata
  | constructTruncated hidle hreq hshort => exact step_constructTruncated hidle hreq hshort
  | noByte hcontext hunit hend => exact step_noByte hcontext hunit hend
  | selector hcontext hin halg =>
    obtain ⟨-, ⟨ops, hreq⟩, -, -⟩ := State.context_selector.1 hcontext
    exact (Stepped.selector hcontext hin halg).step_eq (by rw [hreq]; rfl)
  | rasterToken hcontext hin => exact step_rasterToken hcontext hin
  | columnToken hcontext hin => exact step_columnToken hcontext hin
  | payloadByte hcontext hin hframe =>
    obtain ⟨⟨k, hwork⟩, hready⟩ := State.context_verbatim.1 hcontext
    rw [hwork] at hframe
    exact step_payloadByte hwork hready hin hframe
  | rest hidle hreq => exact step_of_no_request hidle hreq
  | stuck hidle hreq hfaulted => exact (Stepped.stuck hidle hreq hfaulted).step_eq (by rw [hreq]; rfl)
  | inRun hidle hreq hready hrep => exact step_inRun hidle hreq hready hrep
  | geometry hidle hreq hconstructed => exact step_readGeometry hidle hreq hconstructed

/-! ### Progress -/

/-- A CONSTRUCT can always be performed. -/
theorem exists_stepped_of_construct {s : State} {data : List Byte} {dbg : BitVec 8} {ops : List HostOp}
    (hidle : s.work = .idle) (hreq : s.requests = .construct data dbg :: ops) : ∃ t, Stepped s t := by
  obtain hshort | hlong := Nat.lt_or_ge data.length 5
  · exact ⟨_, .constructTruncated hidle hreq hshort⟩
  · obtain ⟨b0, b1, b2, b3, b4, rest, hdata⟩ := exists_header_of_five_le hlong
    exact ⟨_, .construct hidle hreq hdata⟩

/-- So can a DECODE_NEXT of a READY engine: at the end of the stream it fails. -/
theorem exists_stepped_of_decodeNext {s : State} {ops : List HostOp} (hidle : s.work = .idle)
    (hreq : s.requests = .decodeNext :: ops) (hready : s.engineState = .ready) : ∃ t, Stepped s t := by
  by_cases hrep : s.remainingRepeats = 0
  · have hcontext : s.context = some .selector :=
      State.context_selector.2 ⟨hidle, ⟨ops, hreq⟩, hready, hrep⟩
    obtain hin | hend := Nat.lt_or_ge s.cursor s.streamLength
    · obtain ⟨a, -, halg⟩ := decodeSelector_eq (s.streamByte s.cursor)
      exact ⟨_, .selector hcontext hin halg⟩
    · exact ⟨_, .noByte hcontext (by decide) hend⟩
  · exact ⟨_, .inRun hidle hreq hready hrep⟩

/-- With no operation in progress the engine goes on, unless no decoder exists where one is needed. -/
theorem exists_stepped_of_idle {s : State} (hidle : s.work = .idle) (hinstance : ¬ s.needsInstance) :
    ∃ t, Stepped s t := by
  cases hreq : s.requests with
  | nil => exact ⟨s, .rest hidle hreq⟩
  | cons op ops =>
    cases op with
    | construct data dbg => exact exists_stepped_of_construct hidle hreq
    | decodeNext =>
      cases hstate : s.engineState with
      | unconstructed => exact absurd ⟨hstate, .inl (by rw [hreq]; rfl)⟩ hinstance
      | ready => exact exists_stepped_of_decodeNext hidle hreq hstate
      | faulted => exact ⟨_, .stuck hidle hreq hstate⟩
    | readGeometry name =>
      exact ⟨_, .geometry hidle hreq fun hstate => hinstance ⟨hstate, .inr ⟨name, by rw [hreq]; rfl⟩⟩⟩

/-- With a frame in progress the engine goes on: the invariant says that it is `READY`, and that the byte
of a Verbatim payload is there and has its place in the frame buffer. -/
theorem State.Inv.exists_stepped_of_busy {s : State} (h : s.Inv) (hbusy : s.work ≠ .idle) :
    ∃ t, Stepped s t := by
  have hold := h.work
  cases hwork : s.work with
  | idle => exact absurd hwork hbusy
  | raster i =>
    simp only [State.workOk, hwork] at hold
    obtain ⟨hready, -⟩ := hold
    have hcontext : s.context = some .raster := State.context_raster.2 ⟨⟨i, hwork⟩, hready⟩
    obtain hin | hend := Nat.lt_or_ge s.cursor s.streamLength
    · exact ⟨_, .rasterToken hcontext hin⟩
    · exact ⟨_, .noByte hcontext (by decide) hend⟩
  | column i =>
    simp only [State.workOk, hwork] at hold
    obtain ⟨hready, -⟩ := hold
    have hcontext : s.context = some .column := State.context_column.2 ⟨⟨i, hwork⟩, hready⟩
    obtain hin | hend := Nat.lt_or_ge s.cursor s.streamLength
    · exact ⟨_, .columnToken hcontext hin⟩
    · exact ⟨_, .noByte hcontext (by decide) hend⟩
  | verbatim k =>
    simp only [State.workOk, hwork] at hold
    obtain ⟨hready, -, -, hframe, hpayload⟩ := hold
    exact ⟨_, .payloadByte (State.context_verbatim.2 ⟨⟨k, hwork⟩, hready⟩) (by omega) (by rwa [hwork])⟩

/-- A step from the invariant goes on, or no decoder exists and the step is refused for that. -/
theorem State.Inv.progress {s : State} (h : s.Inv) :
    (∃ t, step s = .next t) ∨ (s.needsInstance ∧ step s = .refused .unconstructed) := by
  by_cases hidle : s.work = .idle
  · by_cases hinstance : s.needsInstance
    · exact .inr ⟨hinstance, step_of_needsInstance hidle hinstance⟩
    · exact .inl ((exists_stepped_of_idle hidle hinstance).imp fun _ => Stepped.step_eq_next)
  · exact .inl ((h.exists_stepped_of_busy hidle).imp fun _ => Stepped.step_eq_next)

/-! ### The obligations about CONSTRUCT, READ_GEOMETRY and the refusals -/

/-- Settles O16: the header is big-endian, and the size registers hold every 16-bit geometry. -/
theorem constructReadsTheHeaderAndResets : Obligations.ConstructReadsTheHeaderAndResets := by
  intro s b0 b1 b2 b3 b4 tail dbg ops hidle hreq
  obtain ⟨hbits, hbytes⟩ := s.construct_geometryOk (bigEndian b0 b1) (bigEndian b2 b3) b4
    (b0 :: b1 :: b2 :: b3 :: b4 :: tail) dbg
  refine ⟨_, step_construct hidle hreq rfl, bigEndian_toNat b0 b1, bigEndian_toNat b2 b3, rfl, hbits, hbytes,
    ?length, ?stream, fun _ => rfl, rfl, rfl, rfl, rfl, rfl, rfl, rfl, rfl, rfl, ?requests, rfl⟩
  case length =>
    simp only [State.construct_streamLength, List.length_cons]
    omega
  case stream =>
    intro a
    exact (Memory.read_ofBytes 0 _ a).trans (if_pos (Nat.zero_le a))
  case requests => rw [State.construct_requests, hreq, List.tail_cons]

/-- Settles O51: of the outcomes that progress leaves, none is a fault and one a refusal. -/
theorem stepsFromTheInvariantAreSafe : Obligations.StepsFromTheInvariantAreSafe := by
  intro s h
  obtain ⟨t, hstep⟩ | ⟨hinstance, hstep⟩ := h.progress
  · exact ⟨fun f => by simp [hstep], fun r => by simp [hstep]⟩
  · refine ⟨fun f => by simp [hstep], fun r hrefused => ⟨?_, hinstance⟩⟩
    simpa [hstep] using hrefused.symm

/-- Settles O15. -/
theorem headerWritesEveryRegister : Obligations.HeaderWritesEveryRegister := by
  intro s w h fr dbg data ops hidle hreq
  rw [exec_header hidle hreq, State.construct, hreq]
  rfl

/-- Settles O17. -/
theorem constructOfFewerThanFiveBytesFails : Obligations.ConstructOfFewerThanFiveBytesFails := by
  intro s data dbg ops hidle hreq
  refine ⟨fun hshort => ⟨_, step_constructTruncated hidle hreq hshort, rfl, rfl, rfl, ?_, rfl⟩,
    fun hlong => ?_⟩
  · rw [State.constructTruncated_requests, hreq, List.tail_cons]
  · obtain ⟨b0, b1, b2, b3, b4, rest, hdata⟩ := exists_header_of_five_le hlong
    exact ⟨_, step_construct hidle hreq hdata, rfl, rfl, rfl⟩

/-- Settles O18: the answer writes `work`, which was idle already. -/
theorem readGeometryAnswersItsRegister : Obligations.ReadGeometryAnswersItsRegister := by
  intro s name ops hidle hreq hconstructed
  rw [step_readGeometry hidle hreq hconstructed, State.respond, hreq, ← hidle]
  cases name <;> rfl

/-- Settles O19. -/
theorem unconstructedRefusesDecodeAndRead : Obligations.UnconstructedRefusesDecodeAndRead :=
  fun _ => step_of_needsInstance

end Sys2Proof.Machine

/-! `debug_level` (40_header_parser.md R129). No operation reads the register, so a run of a state with another
`debug_level` is the same run with another `debug_level`, until a CONSTRUCT writes it. -/

namespace Sys2Proof.Machine

open Sys2Proof

/-! ### The operations commute with a write to `debug_level` -/

/-- `s` with another debug level. -/
def State.withDebugLevel (d : BitVec 8) (s : State) : State := { s with debugLevel := d }

theorem State.setBit_withDebugLevel (d : BitVec 8) (s : State) (j : Nat) (v : Bool) :
    (s.withDebugLevel d).setBit j v = (s.setBit j v).map (State.withDebugLevel d) := by
  rw [State.setBit, State.setBit, apply_ite (Except.map (State.withDebugLevel d))]
  rfl

theorem columnPixel_withDebugLevel (d : BitVec 8) (s : State) (i : Nat) (v : Bool) :
    columnPixel (s.withDebugLevel d) i v = (columnPixel s i v).map (State.withDebugLevel d) := by
  rw [columnPixel, columnPixel, apply_ite (Except.map (State.withDebugLevel d)), State.setPixel,
    State.setPixel, ← State.setBit_withDebugLevel]
  rfl

theorem State.continueFrame_withDebugLevel (d : BitVec 8) (s : State) (bound : Nat) (w : Work) :
    (s.withDebugLevel d).continueFrame bound w = (s.continueFrame bound w).withDebugLevel d := by
  rw [State.continueFrame, State.continueFrame, apply_ite (State.withDebugLevel d)]
  rfl

theorem State.beginVerbatim_withDebugLevel (d : BitVec 8) (s : State) :
    (s.withDebugLevel d).beginVerbatim = s.beginVerbatim.withDebugLevel d := by
  rw [State.beginVerbatim, State.beginVerbatim, apply_ite (State.withDebugLevel d),
    ← State.continueFrame_withDebugLevel]
  rfl

theorem State.dispatch_withDebugLevel (d : BitVec 8) (s : State) :
    (s.withDebugLevel d).dispatch = s.dispatch.withDebugLevel d := by
  obtain ⟨a, ha, -⟩ := Algorithm.ofCode_bits s.currentAlgorithm
  have ha' : Algorithm.ofCode (s.withDebugLevel d).currentAlgorithm.toNat = some a := ha
  simp only [State.dispatch, ha, ha']
  cases a with
  | verbatim => exact s.beginVerbatim_withDebugLevel d
  | rlRaster | rlColumn => exact s.continueFrame_withDebugLevel d _ _
  | identical | reserved4 | reserved5 | reserved6 | reserved7 => rfl

theorem State.rasterToken_withDebugLevel (d : BitVec 8) (s : State) (color : Bool) (len : Nat) :
    (s.withDebugLevel d).rasterToken color len = (s.rasterToken color len).withDebugLevel d := by
  have hpaint : paint rasterPixel color len (s.withDebugLevel d).work.position
      ((s.withDebugLevel d).advance 1) = _ :=
    paint_map (pixel := rasterPixel) (State.setBit_withDebugLevel d) color len s.work.position (s.advance 1)
  simp only [State.rasterToken, hpaint]
  cases paint rasterPixel color len s.work.position (s.advance 1) with
  | ok t => exact t.continueFrame_withDebugLevel d _ _
  | error e => rfl

theorem State.columnToken_withDebugLevel (d : BitVec 8) (s : State) (color : Bool) (len : Nat) :
    (s.withDebugLevel d).columnToken color len = (s.columnToken color len).withDebugLevel d := by
  have hpaint : paint columnPixel color len (s.withDebugLevel d).work.position
      ((s.withDebugLevel d).advance 1) = _ :=
    paint_map (columnPixel_withDebugLevel d) color len s.work.position (s.advance 1)
  simp only [State.columnToken, hpaint]
  cases paint columnPixel color len s.work.position (s.advance 1) with
  | ok t => exact t.continueFrame_withDebugLevel d _ _
  | error e => rfl

theorem State.geometry_withDebugLevel (d : BitVec 8) (s : State) (name : Geometry) :
    (s.withDebugLevel d).geometry name = s.geometry name := by
  cases name <;> rfl

/-! ### Steps and runs -/

/-- What a step can do, it can do with every debug level. A CONSTRUCT writes the register; every other step
keeps it. -/
theorem Stepped.withDebugLevel {s t : State} (h : Stepped s t) (d : BitVec 8) :
    ∃ d', Stepped (s.withDebugLevel d) (t.withDebugLevel d') := by
  cases h with
  | construct hidle hreq hdata => exact ⟨_, .construct (s := s.withDebugLevel d) hidle hreq hdata⟩
  | constructTruncated hidle hreq hshort =>
    exact ⟨_, .constructTruncated (s := s.withDebugLevel d) hidle hreq hshort⟩
  | noByte hcontext hunit hend => exact ⟨d, .noByte (s := s.withDebugLevel d) hcontext hunit hend⟩
  | selector hcontext hin halg =>
    refine ⟨d, ?_⟩
    rw [← State.dispatch_withDebugLevel]
    exact .selector (s := s.withDebugLevel d) hcontext hin halg
  | rasterToken hcontext hin =>
    refine ⟨d, ?_⟩
    rw [← State.rasterToken_withDebugLevel]
    exact .rasterToken (s := s.withDebugLevel d) hcontext hin
  | columnToken hcontext hin =>
    refine ⟨d, ?_⟩
    rw [← State.columnToken_withDebugLevel]
    exact .columnToken (s := s.withDebugLevel d) hcontext hin
  | payloadByte hcontext hin hframe =>
    refine ⟨d, ?_⟩
    rw [State.payloadByte, ← State.continueFrame_withDebugLevel]
    exact .payloadByte (s := s.withDebugLevel d) hcontext hin hframe
  | rest hidle hreq => exact ⟨d, .rest (s := s.withDebugLevel d) hidle hreq⟩
  | stuck hidle hreq hfaulted => exact ⟨d, .stuck (s := s.withDebugLevel d) hidle hreq hfaulted⟩
  | inRun hidle hreq hready hrep =>
    refine ⟨d, ?_⟩
    rw [State.repeatFrame, ← State.dispatch_withDebugLevel]
    exact .inRun (s := s.withDebugLevel d) hidle hreq hready hrep
  | @geometry name ops hidle hreq hconstructed =>
    refine ⟨d, ?_⟩
    rw [← s.geometry_withDebugLevel d name]
    exact .geometry (s := s.withDebugLevel d) hidle hreq hconstructed

theorem run_withDebugLevel {n : Nat} {s t : State} (h : Sys2Proof.core.run n s = .next t) (d : BitVec 8) :
    ∃ d', Sys2Proof.core.run n (s.withDebugLevel d) = .next (t.withDebugLevel d') := by
  induction n generalizing s d with
  | zero =>
    obtain rfl : s = t := Host.Outcome.next.inj h
    exact ⟨d, rfl⟩
  | succ n ih =>
    obtain ⟨u, hstep, hrun⟩ := run_next h
    obtain ⟨d', hstepped⟩ := (step_next hstep).withDebugLevel d
    rw [run_succ hstepped.step_eq_next]
    exact ih hrun d'

/-- Two CONSTRUCTs that differ in the debug level alone lead to states that differ in it at most. -/
theorem step_construct_other_debugLevel {s t : State} {data : List Byte} {dbg : BitVec 8}
    {ops : List HostOp} (hidle : s.work = .idle)
    (hstep : step { s with requests := .construct data dbg :: ops } = .next t) (dbg' : BitVec 8) :
    ∃ d, step { s with requests := .construct data dbg' :: ops } = .next (t.withDebugLevel d) := by
  obtain hshort | hlong := Nat.lt_or_ge data.length 5
  · obtain rfl := Host.Outcome.next.inj (hstep.symm.trans (step_constructTruncated hidle rfl hshort))
    exact ⟨_, step_constructTruncated hidle rfl hshort⟩
  · obtain ⟨b0, b1, b2, b3, b4, rest, hdata⟩ := exists_header_of_five_le hlong
    obtain rfl := Host.Outcome.next.inj (hstep.symm.trans (step_construct hidle rfl hdata))
    exact ⟨_, step_construct hidle rfl hdata⟩

/-! ### The obligation about `debug_level` -/

/-- Settles O54: the CONSTRUCTs lead to states that differ in `debug_level` at most, and a run keeps this. -/
theorem debugLevelHasNoEffect : Obligations.DebugLevelHasNoEffect := by
  intro s data d d' ops n t hidle hrun
  cases n with
  | zero =>
    obtain rfl := Host.Outcome.next.inj hrun
    exact ⟨_, rfl, rfl, fun name => by cases name <;> rfl⟩
  | succ n =>
    obtain ⟨u, hstep, hrest⟩ := run_next hrun
    obtain ⟨e, hstep'⟩ := step_construct_other_debugLevel hidle hstep d'
    obtain ⟨e', hrun'⟩ := run_withDebugLevel hrest e
    exact ⟨t.withDebugLevel e', (run_succ hstep').trans hrun', rfl, t.geometry_withDebugLevel e'⟩

end Sys2Proof.Machine

/-! The frame-buffer primitives (41_frame_buffer.md) and the Verbatim payload byte, which stores through
them. Storing one byte leaves every other byte; CopyFrom is a list of such stores, and SetBit one store of
a byte that differs in one bit. -/

namespace Sys2Proof.Machine

open Sys2Proof

/-! ### The bytes of the frame buffer -/

/-- Storing a byte of the frame buffer leaves every other byte. -/
theorem State.frameByte_setFrameByte {s : State} (hwf : Memory.wf s.fb = true) (k : Nat) (b : Byte) (k' : Nat) :
    (s.setFrameByte k b).frameByte k' = if k' = k then b else s.frameByte k' :=
  Memory.read_write hwf k k' b

theorem Memory.readBytes_getElem? (m : Memory) (a : Nat) {n k : Nat} (hk : k < n) :
    (Memory.readBytes m a n)[k]? = some (Memory.read m (a + k)) := by
  have hlength : k < (Memory.readBytes m a n).length := by rwa [Memory.readBytes_length]
  rw [List.getElem?_eq_getElem hlength, ← Memory.readBytes_getD m a n k hk, List.getD_eq_getElem _ _ hlength]

/-! ### CopyFrom -/

/-- CopyFrom writes no byte outside the range it copies to. -/
theorem State.copyFrom_frameByte_outside {s : State} (hwf : Memory.wf s.fb = true) (k : Nat) (bs : List Byte)
    {a : Nat} (ha : a < k ∨ k + bs.length ≤ a) : (s.copyFrom k bs).frameByte a = s.frameByte a := by
  induction bs generalizing s k with
  | nil => rfl
  | cons b bs ih =>
    rw [List.length_cons] at ha
    calc ((s.setFrameByte k b).copyFrom (k + 1) bs).frameByte a
      _ = (s.setFrameByte k b).frameByte a := ih (Memory.wf_write hwf k b) (k + 1) (by omega)
      _ = s.frameByte a := by rw [State.frameByte_setFrameByte hwf, if_neg (by omega)]

/-- The bytes copied are the bytes read back. -/
theorem State.readBytes_copyFrom {s : State} (hwf : Memory.wf s.fb = true) (k : Nat) (bs : List Byte) :
    Memory.readBytes (s.copyFrom k bs).fb k bs.length = bs := by
  induction bs generalizing s k with
  | nil => rfl
  | cons b bs ih =>
    have hwf' : Memory.wf (s.setFrameByte k b).fb = true := Memory.wf_write hwf k b
    have hhead : (s.copyFrom k (b :: bs)).frameByte k = b := by
      rw [State.copyFrom, State.copyFrom_frameByte_outside hwf' (k + 1) bs (.inl k.lt_succ_self),
        State.frameByte_setFrameByte hwf, if_pos rfl]
    exact congrArg₂ List.cons hhead (ih hwf' (k + 1))

/-! ### The Verbatim payload byte -/

/-- A payload byte inside the frame is stored at its place, and the frame goes on after it. -/
theorem exec_bytes_of_lt {s : State} {k : Nat} (b : Byte) (hat : s.atPayloadByte k)
    (hk : k < s.frameByteCount.toNat) :
    exec (.bytes b) s = .next (((s.advance 1).setFrameByte k b).continueFrame s.frameByteCount.toNat
      (.verbatim (k + 1))) := by
  obtain ⟨hwork, hready⟩ := hat
  have hposition : s.work.position = k := congrArg Work.position hwork
  subst hposition
  exact (if_neg fun hpast => Nat.not_le.2 hk hpast.2).trans
    (inContext_of_context (State.context_verbatim.2 ⟨⟨_, hwork⟩, hready⟩))

/-- Going on with a frame, or completing it, stores nothing. -/
theorem State.continueFrame_frameByte (s : State) (bound : Nat) (w : Work) (k : Nat) :
    (s.continueFrame bound w).frameByte k = s.frameByte k := by
  obtain ⟨-, h⟩ | ⟨-, h⟩ := s.continueFrame_cases bound w <;> rw [h] <;> rfl

/-! ### The obligations about the frame buffer -/

/-- Settles O11: SetBit is one store of a byte that differs in bit `j` alone. -/
theorem setBitWritesOneBitOrFails : Obligations.SetBitWritesOneBitOrFails := by
  intro s j v hwf
  refine ⟨fun hpast => State.setBit_of_not_lt (Nat.not_lt.2 hpast), fun hj => ?_⟩
  obtain ⟨t, hset, -, hbit⟩ := State.setBit_spec hwf v hj
  obtain ⟨-, rfl⟩ := State.setBit_ok hset
  refine ⟨_, hset, hbit, fun k hk => ?_, fun _ => rfl, rfl⟩
  rw [State.frameByte_setFrameByte hwf]
  exact if_neg hk

/-- Settles O14. -/
theorem copyFromIsAByteForByteCopy : Obligations.CopyFromIsAByteForByteCopy := by
  intro s p hwf hlength
  refine ⟨?_, fun k hk => State.copyFrom_frameByte_outside hwf 0 p (.inr (by omega)), s.copyFrom_eq 0 p⟩
  have hcount : (s.copyFrom 0 p).frameByteCount = s.frameByteCount := by rw [State.copyFrom_eq]
  rw [State.snapshot, hcount, ← hlength]
  exact State.readBytes_copyFrom hwf 0 p

/-- Settles O31: the frame goes on at byte `k + 1`, or is complete there. -/
theorem payloadByteIsStored : Obligations.PayloadByteIsStored := by
  intro s k b hwf hat hk
  refine ⟨_, exec_bytes_of_lt b hat hk, fun k' => ?_, fun hmore => ?_, fun hlast => ?_⟩
  · rw [State.continueFrame_frameByte]
    exact State.frameByte_setFrameByte (s := s.advance 1) hwf k b k'
  · rw [State.continueFrame_of_lt hmore]
    rfl
  · rw [State.continueFrame_of_not_lt (Nat.not_lt.2 hlast.ge)]
    rfl

/-- Settles O12: `c = width * (c div width) + c mod width`, also at width 0. -/
theorem setPixelChecksTheLinearIndexAlone : Obligations.SetPixelChecksTheLinearIndexAlone := by
  intro s c r v
  refine ⟨rfl, ?_⟩
  have hindex : s.pixelIndex c r = s.pixelIndex (c % s.width.toNat) (r + c / s.width.toNat) := by
    simp only [State.pixelIndex]
    rw [Nat.add_mul, Nat.add_assoc, Nat.mul_comm (c / s.width.toNat), Nat.div_add_mod]
  rw [State.setPixel, State.setPixel, hindex]

/-- Settles O13. -/
theorem snapshotIsEveryFrameByte : Obligations.SnapshotIsEveryFrameByte := fun s =>
  ⟨Memory.readBytes_length s.fb 0 s.frameByteCount.toNat, fun k hk => by
    rw [State.snapshot, Memory.readBytes_getElem? s.fb 0 hk, Nat.zero_add, State.frameByte]⟩

end Sys2Proof.Machine

/-! What a selector, or a repeat, starts (42_run_state_machine.md R164, R165, R167). From the dispatch on a frame
is begun or complete with nothing written, unless it is a Verbatim frame without its payload. -/

namespace Sys2Proof.Machine

open Sys2Proof

/-! ### What the dispatch does -/

/-- `t` is `u` with a frame begun, its first payload unit to be read next, or with the frame complete. -/
def FrameStarts (u t : State) : Prop :=
  (∃ w, t = u.withWork w) ∨ t = u.completeFrame

theorem State.continueFrame_starts (u : State) (bound : Nat) (w : Work) :
    FrameStarts u (u.continueFrame bound w) :=
  (u.continueFrame_cases bound w).imp (fun h => ⟨w, h.2⟩) And.right

theorem State.beginVerbatim_of_lt {u : State} (h : u.streamLength < u.cursor + u.frameByteCount.toNat) :
    u.beginVerbatim = u.raise .truncatedStream :=
  if_pos h

theorem State.beginVerbatim_of_le {u : State} (h : u.cursor + u.frameByteCount.toNat ≤ u.streamLength) :
    u.beginVerbatim = u.continueFrame u.frameByteCount.toNat (.verbatim 0) :=
  if_neg (Nat.not_lt.2 h)

theorem State.dispatch_verbatim {u : State} (h : u.currentAlgorithm = 0) : u.dispatch = u.beginVerbatim := by
  rw [State.dispatch, h]
  rfl

/-- Only the length check of Verbatim fails before a payload unit is read (43_algorithms.md R193). -/
theorem State.dispatch_starts {u : State}
    (h : u.currentAlgorithm ≠ 0 ∨ u.cursor + u.frameByteCount.toNat ≤ u.streamLength) :
    FrameStarts u u.dispatch := by
  obtain ⟨halg, heq⟩ | ⟨-, heq⟩ | ⟨-, heq⟩ | ⟨-, heq⟩ := u.dispatch_cases <;> rw [heq]
  · rw [State.beginVerbatim_of_le (h.resolve_left fun hne => hne halg)]
    exact u.continueFrame_starts _ _
  · exact u.continueFrame_starts _ _
  · exact u.continueFrame_starts _ _
  · exact .inr rfl

/-- The algorithms that read no payload and write nothing: 1 (43_algorithms.md R196) and 4 to 7 (R214). -/
def zeroCostCodes : List Nat := [1, 4, 5, 6, 7]

theorem State.dispatch_zeroCost {u : State} (h : u.currentAlgorithm.toNat ∈ zeroCostCodes) :
    u.dispatch = u.completeFrame := by
  obtain ⟨halg, -⟩ | ⟨halg, -⟩ | ⟨halg, -⟩ | ⟨-, heq⟩ := u.dispatch_cases
  · exact absurd h (by rw [halg]; decide)
  · exact absurd h (by rw [halg]; decide)
  · exact absurd h (by rw [halg]; decide)
  · exact heq

/-! ### A selector position -/

theorem Algorithm.toNat_ofNat_code (a : Algorithm) : (BitVec.ofNat 3 a.code).toNat = a.code :=
  (BitVec.toNat_ofNat ..).trans (Nat.mod_eq_of_lt a.code_lt)

theorem State.atSelector.context {s : State} (h : s.atSelector) : s.context = some .selector := by
  obtain ⟨hidle, hreq, hready, hrep⟩ := h
  exact State.context_selector.2 ⟨hidle, List.head?_eq_some_iff.1 hreq, hready, hrep⟩

/-- At a selector position a selector loads the run and starts its frame (42_run_state_machine.md R164). -/
theorem State.atSelector.exec_selector {s : State} (h : s.atSelector) (a : Algorithm) (rep : Nat) :
    exec (a.selector rep) s = .next (s.loadSelector a rep).dispatch :=
  (Machine.exec_selector a rep s).trans (inContext_of_context h.context)

/-- A selector whose frame is complete at once: no operation was in progress, and none is afterwards. -/
theorem State.atSelector.completeFrame_loadSelector {s : State} (h : s.atSelector) (a : Algorithm) (rep : Nat) :
    (s.loadSelector a rep).completeFrame = { s with
      cursor := s.cursor + 1
      currentAlgorithm := BitVec.ofNat 3 a.code
      remainingRepeats := BitVec.ofNat 8 rep
      frameIndex := s.frameIndex + 1
      requests := s.requests.tail
      results := .frame s.snapshot (decide (s.cursor + 1 < s.streamLength)) :: s.results } := by
  obtain ⟨hidle, -⟩ := h
  rw [State.completeFrame, State.respond, ← hidle]
  rfl

theorem State.loadSelector_zeroCost (s : State) {a : Algorithm} (h : a.code ∈ zeroCostCodes) (rep : Nat) :
    (s.loadSelector a rep).currentAlgorithm.toNat ∈ zeroCostCodes := by
  rwa [State.loadSelector_currentAlgorithm, Algorithm.toNat_ofNat_code]

theorem State.dispatch_loadSelector_zeroCost (s : State) {a : Algorithm} (h : a.code ∈ zeroCostCodes) (rep : Nat) :
    (s.loadSelector a rep).dispatch = (s.loadSelector a rep).completeFrame :=
  State.dispatch_zeroCost (s.loadSelector_zeroCost h rep)

/-! ### The obligations about a selector position -/

/-- Settles O20: the five selectors are those of the zero-cost algorithms. -/
theorem zeroCostSelectorsCompleteAFrame : Obligations.ZeroCostSelectorsCompleteAFrame := by
  intro s rep hat i alg hmem
  have hzeroCost : ∃ a : Algorithm, a.code ∈ zeroCostCodes ∧ i = a.selector rep ∧ alg = BitVec.ofNat 3 a.code := by
    simp only [List.mem_cons, Prod.mk.injEq, List.not_mem_nil, or_false] at hmem
    obtain ⟨rfl, rfl⟩ | ⟨rfl, rfl⟩ | ⟨rfl, rfl⟩ | ⟨rfl, rfl⟩ | ⟨rfl, rfl⟩ := hmem
    · exact ⟨.identical, by decide, rfl, rfl⟩
    · exact ⟨.reserved4, by decide, rfl, rfl⟩
    · exact ⟨.reserved5, by decide, rfl, rfl⟩
    · exact ⟨.reserved6, by decide, rfl, rfl⟩
    · exact ⟨.reserved7, by decide, rfl, rfl⟩
  obtain ⟨a, hcost, rfl, rfl⟩ := hzeroCost
  rw [hat.exec_selector, s.dispatch_loadSelector_zeroCost hcost, hat.completeFrame_loadSelector]

/-- Settles O21: past the length check the frame goes on below `frame_byte_count`, and an empty one is complete. -/
theorem verbatimSelectorStartsThePayload : Obligations.VerbatimSelectorStartsThePayload := by
  intro s rep hat hpayload
  have hexec : exec (.selVerbatim rep) s = .next ((s.loadSelector .verbatim rep).continueFrame
      s.frameByteCount.toNat (.verbatim 0)) :=
    (hat.exec_selector .verbatim rep).trans (congrArg _
      ((State.dispatch_verbatim rfl).trans (State.beginVerbatim_of_le hpayload)))
  refine ⟨fun hpos => ?_, fun hempty => ?_⟩ <;> rw [hexec]
  · rw [State.continueFrame_of_lt hpos]
    rfl
  · have hsnapshot : s.snapshot = [] := by rw [State.snapshot, hempty]; rfl
    rw [State.continueFrame_of_not_lt (Nat.not_lt.2 hempty.le), hat.completeFrame_loadSelector, hsnapshot]
    rfl

/-- Settles O22: both frames go on below `frame_bit_count`, and an empty one is complete. -/
theorem runLengthSelectorsStartAtCountZero : Obligations.RunLengthSelectorsStartAtCountZero := by
  intro s rep hat
  have hraster : exec (.selRlRaster rep) s = .next ((s.loadSelector .rlRaster rep).continueFrame
      s.frameBitCount.toNat (.raster 0)) := hat.exec_selector .rlRaster rep
  have hcolumn : exec (.selRlColumn rep) s = .next ((s.loadSelector .rlColumn rep).continueFrame
      s.frameBitCount.toNat (.column 0)) := hat.exec_selector .rlColumn rep
  refine ⟨fun hpos => ?_, fun hempty => ?_⟩ <;> rw [hraster, hcolumn]
  · rw [State.continueFrame_of_lt hpos, State.continueFrame_of_lt hpos]
    exact ⟨rfl, rfl⟩
  · have hend : ¬ 0 < s.frameBitCount.toNat := Nat.not_lt.2 hempty.le
    rw [State.continueFrame_of_not_lt hend, State.continueFrame_of_not_lt hend,
      hat.completeFrame_loadSelector, hat.completeFrame_loadSelector]
    exact ⟨rfl, rfl⟩

/-! ### Errors -/

theorem State.raise_failedWith (s : State) (e : ResultCode) : s.failedWith (s.raise e) e :=
  ⟨rfl, rfl, rfl, rfl, rfl, rfl, s.sameInstance_refl⟩

/-- Settles O25: in each of the three contexts the unit is missing. -/
theorem unitPastTheEndIsTruncatedStream : Obligations.UnitPastTheEndIsTruncatedStream := by
  intro s hend hat
  have hcontext : ∃ c, c ≠ .header ∧ s.context = some c := by
    obtain hselector | ⟨i, hwork, hready⟩ | ⟨i, hwork, hready⟩ := hat
    · exact ⟨.selector, by decide, hselector.context⟩
    · exact ⟨.raster, by decide, State.context_raster.2 ⟨⟨i, hwork⟩, hready⟩⟩
    · exact ⟨.column, by decide, State.context_column.2 ⟨⟨i, hwork⟩, hready⟩⟩
  obtain ⟨c, hunit, hcontext⟩ := hcontext
  exact ⟨_, step_noByte hcontext hunit hend, s.raise_failedWith _⟩

/-- Settles O44: the answer writes `work`, which was idle already. -/
theorem faultedDecodeNextReturnsTheStoredError : Obligations.FaultedDecodeNextReturnsTheStoredError := by
  intro s ops hidle hreq hfaulted
  rw [(Stepped.stuck hidle hreq hfaulted).step_eq_next, State.respond, hreq, ← hidle]
  rfl

end Sys2Proof.Machine

/-! What a step answers the host: a frame, an error of DECODE_NEXT, the stored error, a value, or the outcome of
a CONSTRUCT. The rules about delivered frames and about errors are read from these few cases. -/

namespace Sys2Proof.Machine

open Sys2Proof

/-! ### What a step answers -/

/-- What a step that goes on answers, and what it has written before it answers. -/
inductive Answered (s : State) : State → Prop where
  /-- CONSTRUCT succeeds (40_header_parser.md R128). -/
  | constructed {w h : BitVec 16} {fr : BitVec 8} {data : List Byte} {dbg : BitVec 8}
      (request : s.requests.head? = some (.construct data dbg)) : Answered s (s.construct w h fr data dbg)
  /-- CONSTRUCT fails (R121). -/
  | notConstructed {data : List Byte} {dbg : BitVec 8}
      (request : s.requests.head? = some (.construct data dbg)) : Answered s s.constructTruncated
  /-- Nothing is requested (60_exceptions.md R249). -/
  | held (request : s.requests.head? = none) : Answered s s
  /-- DECODE_NEXT in `FAULTED` (R239). -/
  | storedError (faulted : s.engineState = .faulted) : Answered s (s.respond (.failed s.lastError))
  /-- READ_GEOMETRY (40_header_parser.md R132). -/
  | value (v : Nat) : Answered s (s.respond (.value v))
  /-- One of the two errors of DECODE_NEXT is raised (60_exceptions.md R232, R233, R236). -/
  | error {e : ResultCode} (ready : s.engineState = .ready)
      (kind : e = .truncatedStream ∨ e = .bitIndexOutOfRange) : Answered s (s.raise e)
  /-- A part of a DECODE_NEXT begins a frame or goes on with it. -/
  | nothing {u : State} (part : PartConsumes s u) (w : Work) : Answered s (u.withWork w)
  /-- A part of a DECODE_NEXT completes its frame (42_run_state_machine.md R168, R169). -/
  | frame {u : State} (part : PartConsumes s u) : Answered s u.completeFrame

theorem PartConsumes.countRepeat {s : State} (hready : s.engineState = .ready) : PartConsumes s s.countRepeat :=
  ⟨hready, rfl, .inl rfl⟩

theorem FrameStarts.answered {s u t : State} (h : FrameStarts u t) (hpart : PartConsumes s u) : Answered s t := by
  obtain ⟨w, rfl⟩ | rfl := h
  · exact .nothing hpart w
  · exact .frame hpart

theorem PartConsumes.dispatch_answered {s u : State} (h : PartConsumes s u) : Answered s u.dispatch := by
  by_cases hfails : u.currentAlgorithm = 0 ∧ u.streamLength < u.cursor + u.frameByteCount.toNat
  · obtain ⟨halg, hlong⟩ := hfails
    rw [State.dispatch_verbatim halg, State.beginVerbatim_of_lt hlong, h.raise_eq]
    exact .error h.ready (.inl rfl)
  · exact (State.dispatch_starts (not_and_or.1 hfails |>.imp_right Nat.not_lt.1)).answered h

/-- A token of either run-length algorithm, by what it can do. -/
theorem token_answered {pixel : State → Nat → Bool → Except ResultCode State} (hp : PixelOp pixel)
    {s t : State} (hready : s.engineState = .ready) (hin : s.cursor < s.streamLength) {color : Bool}
    {len i bound : Nat} {w : Work}
    (h : (∃ u, paint pixel color len i (s.advance 1) = .ok u ∧ t = u.continueFrame bound w) ∨
      t = s.raise .bitIndexOutOfRange) : Answered s t := by
  obtain ⟨u, hpaint, rfl⟩ | rfl := h
  · exact (u.continueFrame_starts bound w).answered (.paint hp hready hin hpaint)
  · exact .error hready (.inr rfl)

/-- Every case of a step is one of these answers. -/
theorem Stepped.answered {s t : State} (h : Stepped s t) : Answered s t := by
  cases h with
  | construct _ hreq _ => exact .constructed (congrArg List.head? hreq)
  | constructTruncated _ hreq _ => exact .notConstructed (congrArg List.head? hreq)
  | noByte hcontext hunit _ => exact .error (State.ready_of_context hcontext hunit) (.inl rfl)
  | selector hcontext hin _ =>
    exact PartConsumes.dispatch_answered
      ⟨State.ready_of_context hcontext (by decide), rfl, .inr ⟨rfl, hin⟩⟩
  | rasterToken hcontext hin =>
    exact token_answered rasterPixel_op (State.ready_of_context hcontext (by decide)) hin
      (s.rasterToken_cases _ _)
  | columnToken hcontext hin =>
    exact token_answered columnPixel_op (State.ready_of_context hcontext (by decide)) hin
      (s.columnToken_cases _ _)
  | payloadByte hcontext hin _ =>
    exact (State.continueFrame_starts _ _ _).answered
      ⟨State.ready_of_context hcontext (by decide), rfl, .inr ⟨rfl, hin⟩⟩
  | rest _ hreq => exact .held (congrArg List.head? hreq)
  | stuck _ _ hfaulted => exact .storedError hfaulted
  | inRun _ _ hready _ => exact (PartConsumes.countRepeat hready).dispatch_answered
  | geometry => exact .value _

/-! ### What a part of a DECODE_NEXT has left as it was when it answers -/

section Part

variable {s u : State} (h : PartConsumes s u)

include h

theorem PartConsumes.results_eq : u.results = s.results := by rw [h.eq]

theorem PartConsumes.results_ne_cons (r : HostResult) : u.results ≠ r :: s.results := by
  rw [h.results_eq]
  exact (List.cons_ne_self r s.results).symm

theorem PartConsumes.frameIndex_eq : u.frameIndex = s.frameIndex := by rw [h.eq]

theorem PartConsumes.lastError_eq : u.lastError = s.lastError := by rw [h.eq]

theorem PartConsumes.engineState_eq : u.engineState = .ready := by rw [h.eq]; exact h.ready

end Part

/-! ### The obligations about frames and errors -/

/-- Settles O42: of all answers only a completed frame is a frame, and only it is counted. -/
theorem deliveredFrameIsCountedSnapshotAndHasMore : Obligations.DeliveredFrameIsCountedSnapshotAndHasMore := by
  intro s t hstep
  cases (step_next hstep).answered with
  | constructed hreq | notConstructed hreq =>
    exact ⟨fun _ _ hframe => by simp at hframe, fun _ hno => absurd hreq (hno _ _)⟩
  | held | storedError | value | error => exact ⟨fun _ _ hframe => by simp at hframe, fun _ _ => rfl⟩
  | nothing hpart w =>
    refine ⟨fun _ _ hframe => ?_, fun _ _ => hpart.frameIndex_eq⟩
    exact absurd hframe (hpart.results_ne_cons _)
  | @frame u hpart =>
    have hresults : u.completeFrame.results = .frame u.snapshot u.hasMore :: s.results := by
      rw [State.completeFrame_results, hpart.results_eq]
    refine ⟨fun bytes more hframe => ?_, fun hnone _ => absurd hresults (hnone _ _)⟩
    rw [hresults] at hframe
    simp only [List.cons.injEq, HostResult.frame.injEq, and_true] at hframe
    obtain ⟨rfl, rfl⟩ := hframe
    exact ⟨rfl, rfl, by rw [State.completeFrame_frameIndex, hpart.frameIndex_eq], hpart.engineState_eq⟩

/-- Settles O43: a READY engine becomes `FAULTED`, and answers a DECODE_NEXT with an error, by `raise` alone. -/
theorem errorEndsTheOperationWithoutAFrame : Obligations.ErrorEndsTheOperationWithoutAFrame := by
  intro s t hstep hready
  cases (step_next hstep).answered with
  | constructed hreq | notConstructed hreq =>
    exact ⟨fun hfaulted => by simp at hfaulted, fun _ hdecode => by simp [hreq] at hdecode⟩
  | held hreq => exact ⟨fun hfaulted => by simp [hready] at hfaulted, fun _ hdecode => by simp [hreq] at hdecode⟩
  | storedError hfaulted => simp [hready] at hfaulted
  | value => exact ⟨fun hfaulted => by simp [hready] at hfaulted, fun _ _ herror => by simp at herror⟩
  | error _ hkind =>
    refine ⟨fun _ => ⟨s.raise_failedWith _, hkind⟩, fun e _ herror => ?_⟩
    simp only [State.raise_results, List.cons.injEq, HostResult.failed.injEq, and_true] at herror
    exact herror ▸ ⟨s.raise_failedWith _, hkind⟩
  | nothing hpart w =>
    refine ⟨fun hfaulted => ?_, fun _ _ herror => ?_⟩
    · exact absurd (hpart.engineState_eq.symm.trans hfaulted) (by decide)
    · exact absurd herror (hpart.results_ne_cons _)
  | frame hpart =>
    refine ⟨fun hfaulted => ?_, fun _ _ herror => by simp at herror⟩
    exact absurd (hpart.engineState_eq.symm.trans hfaulted) (by decide)

/-- Settles O47: the one error answered that the step does not raise itself is the stored one. -/
theorem unknownAlgorithmIsNeverRaised : Obligations.UnknownAlgorithmIsNeverRaised := by
  intro s t hstep
  cases (step_next hstep).answered with
  | constructed | notConstructed => exact ⟨fun hcode => by simp at hcode, fun _ hfailed => by simp at hfailed⟩
  | storedError => exact ⟨id, fun hstored hfailed => hstored (by simpa using hfailed)⟩
  | held | value => exact ⟨id, fun _ hfailed => by simp at hfailed⟩
  | error _ hkind =>
    obtain rfl | rfl := hkind
    all_goals exact ⟨fun hcode => by simp at hcode, fun _ hfailed => by simp at hfailed⟩
  | nothing hpart w =>
    exact ⟨fun hcode => hpart.lastError_eq ▸ hcode, fun _ => hpart.results_ne_cons _⟩
  | frame hpart => exact ⟨fun hcode => hpart.lastError_eq ▸ hcode, fun _ hfailed => by simp at hfailed⟩

end Sys2Proof.Machine

/-! Runs (42_run_state_machine.md R165, R166, R172, R177). An in-run frame counts down and starts the frame of the
run's algorithm; the algorithms themselves write no register of the run, so a run of `rep` ends after `rep` frames
more than the one its selector gave. -/

namespace Sys2Proof.Machine

open Sys2Proof

/-! ### An in-run frame -/

theorem State.countRepeat_remainingRepeats_toNat {s : State} (h : s.remainingRepeats ≠ 0) :
    s.countRepeat.remainingRepeats.toNat = s.remainingRepeats.toNat - 1 := by
  rw [State.countRepeat_remainingRepeats]
  bv_omega

/-- Settles O26: the count goes down, and then the dispatch is that of the run's algorithm. -/
theorem inRunFrameReadsNoSelector : Obligations.InRunFrameReadsNoSelector := by
  intro s ⟨hidle, hreq, hready⟩ hrep
  obtain ⟨ops, hops⟩ := List.head?_eq_some_iff.1 hreq
  have hstep : step s = .next s.countRepeat.dispatch := step_inRun hidle hops hready hrep
  have hcount := State.countRepeat_remainingRepeats_toNat hrep
  have hsame : s.sameInstance s.countRepeat := s.sameInstance_refl
  refine ⟨fun hpayload => ⟨_, hstep, ?_⟩, fun halg hlong => ⟨_, hstep, ?_⟩⟩
  · obtain ⟨w, hstart⟩ | hstart := State.dispatch_starts (u := s.countRepeat) hpayload
    all_goals
      rw [hstart]
      exact ⟨hready, hcount, rfl, rfl, fun _ => rfl, hsame⟩
  · rw [State.dispatch_verbatim (u := s.countRepeat) halg, State.beginVerbatim_of_lt (u := s.countRepeat) hlong,
      (PartConsumes.countRepeat hready).raise_eq]
    exact s.raise_failedWith _

/-! ### The algorithms write no register of the run -/

theorem tokenLoop_ok {pixel : State → Nat → Bool → Except ResultCode State} (hp : PixelOp pixel)
    {remaining i : Nat} {s t : State} (h : tokenLoop pixel remaining i s = .ok t) :
    t = { s with fb := t.fb, cursor := t.cursor } := by
  induction remaining generalizing i s with
  | zero =>
    by_cases hi : i < s.frameBitCount.toNat
    · simp [tokenLoop_zero hi] at h
    · obtain rfl : s = t := by simpa [tokenLoop_of_not_lt hi] using h
      rfl
  | succ remaining ih =>
    by_cases hi : i < s.frameBitCount.toNat
    · cases hpaint : paint pixel (tokenColor (s.streamByte s.cursor)) (tokenLength (s.streamByte s.cursor)) i
          (s.advance 1) with
      | ok u =>
        rw [tokenLoop_succ_of_ok hi hpaint] at h
        have ht := ih h
        rw [paint_ok hp hpaint] at ht
        exact ht
      | error e => simp [tokenLoop_succ_of_error hi hpaint] at h
    · obtain rfl : s = t := by simpa [tokenLoop_of_not_lt hi] using h
      rfl

theorem State.verbatimFrame_ok {s t : State} (h : s.verbatimFrame = .ok t) :
    t = { s with fb := t.fb, cursor := t.cursor } := by
  unfold State.verbatimFrame at h
  split at h
  · cases h
  · simp only [Except.ok.injEq] at h
    rw [← h, State.copyFrom_eq]
    rfl

/-- An algorithm that succeeds has written the frame buffer and `cursor` alone. -/
theorem State.algorithmFrame_ok {s t : State} (h : s.algorithmFrame = .ok t) :
    t = { s with fb := t.fb, cursor := t.cursor } := by
  obtain ⟨a, ha, -⟩ := Algorithm.ofCode_bits s.currentAlgorithm
  simp only [State.algorithmFrame, ha] at h
  cases a with
  | verbatim => exact State.verbatimFrame_ok h
  | rlRaster => exact tokenLoop_ok rasterPixel_op h
  | rlColumn => exact tokenLoop_ok columnPixel_op h
  | identical | reserved4 | reserved5 | reserved6 | reserved7 =>
    obtain rfl : s = t := Except.ok.inj h
    rfl

/-- A DECODE_NEXT that leaves the engine `READY` leaves the registers of the run as steps 1 and 2 of R171 do. -/
theorem State.decodeNextReady_run {s : State} (hready : s.decodeNextReady.engineState = .ready) :
    ∃ u, s.selectorOrRepeat = .ok u ∧ s.decodeNextReady.currentAlgorithm = u.currentAlgorithm ∧
      s.decodeNextReady.remainingRepeats = u.remainingRepeats := by
  cases hfetch : s.selectorOrRepeat with
  | error e => simp [State.decodeNextReady_of_error hfetch] at hready
  | ok u =>
    rw [State.decodeNextReady_of_ok hfetch] at hready ⊢
    cases hframe : u.algorithmFrame with
    | error e => simp [hframe, State.finish] at hready
    | ok v =>
      refine ⟨u, rfl, ?_⟩
      rw [State.finish, State.algorithmFrame_ok hframe]
      exact ⟨rfl, rfl⟩

/-! ### The run state -/

theorem State.runState_eq (s : State) : s.runState =
    if s.remainingRepeats.toNat > 0 then .inRun s.remainingRepeats.toNat else .awaitingSelector := by
  unfold State.runState
  by_cases h : s.remainingRepeats = 0
  · simp [h]
  · have hpos : s.remainingRepeats.toNat > 0 := by bv_omega
    rw [if_neg h, if_pos hpos]

theorem State.runState_awaitingSelector {s : State} :
    s.runState = .awaitingSelector ↔ s.remainingRepeats = 0 := by
  unfold State.runState
  split <;> simp_all

theorem State.runState_inRun {s : State} {r0 : Nat} :
    s.runState = .inRun r0 ↔ s.remainingRepeats ≠ 0 ∧ s.remainingRepeats.toNat = r0 := by
  unfold State.runState
  split <;> simp_all

/-- The registers that a selector byte sets (42_run_state_machine.md R164). -/
theorem State.selectorOrRepeat_awaitingSelector {s u : State} (hrep : s.remainingRepeats = 0)
    (h : s.selectorOrRepeat = .ok u) : s.cursor < s.streamLength ∧
      u.currentAlgorithm.toNat = (s.streamByte s.cursor).toNat / 32 ∧
      u.remainingRepeats.toNat = (s.streamByte s.cursor).toNat % 32 := by
  by_cases hend : s.cursor ≥ s.streamLength
  · simp [State.selectorOrRepeat, hrep, hend] at h
  · simp only [State.selectorOrRepeat, hrep, hend, if_true, if_false, Except.ok.injEq] at h
    subst h
    simp only [selectorAlg_eq, selectorRep_eq, BitVec.toNat_ofNat]
    omega

/-- The registers that a repeat keeps and counts down (R165). -/
theorem State.selectorOrRepeat_inRun {s u : State} (hrep : s.remainingRepeats ≠ 0)
    (h : s.selectorOrRepeat = .ok u) : u = s.countRepeat := by
  rw [State.selectorOrRepeat, if_neg hrep] at h
  exact (Except.ok.inj h).symm

/-- Settles O35: the run state afterwards is that of the selector, or of the count. -/
theorem runStateTransitionsOfDecodeNext : Obligations.RunStateTransitionsOfDecodeNext := by
  intro s t hready hdecode hsuccess
  obtain rfl : s.decodeNextReady = t := by simpa [State.decodeNext, hready] using hdecode
  obtain ⟨u, hfetch, halg, hrep⟩ := State.decodeNextReady_run hsuccess
  rw [State.runState_eq s.decodeNextReady, halg, hrep]
  refine ⟨fun hawaiting => ?_, fun r0 hrun => ?_⟩
  · obtain ⟨hin, halg, hrep⟩ :=
      State.selectorOrRepeat_awaitingSelector (State.runState_awaitingSelector.1 hawaiting) hfetch
    rw [hrep]
    exact ⟨hin, halg, rfl⟩
  · obtain ⟨hne, rfl⟩ := State.runState_inRun.1 hrun
    obtain rfl := State.selectorOrRepeat_inRun hne hfetch
    rw [State.countRepeat_remainingRepeats_toNat hne]
    simp only [gt_iff_lt, Nat.sub_pos_iff_lt, State.countRepeat_currentAlgorithm, and_self]

/-! ### A zero-cost run -/

/-- `s` after the last `n` frames of a zero-cost run: `FB` is unchanged, and each frame is its snapshot with
the `has_more` of `cursor`. -/
def State.afterZeroCostRun (s : State) (n : Nat) (ops : List HostOp) : State :=
  { s with
    remainingRepeats := 0
    frameIndex := s.frameIndex + BitVec.ofNat 64 n
    work := .idle
    requests := ops
    results := List.replicate n (.frame s.snapshot s.hasMore) ++ s.results }

theorem State.afterZeroCostRun_zero {s : State} (hidle : s.work = .idle) (hrep : s.remainingRepeats = 0) :
    s.afterZeroCostRun 0 s.requests = s := by
  rw [State.afterZeroCostRun, ← hidle, ← hrep, BitVec.add_zero]
  rfl

/-- One frame and then `n` are a run of `n + 1`. -/
theorem State.completeFrame_afterZeroCostRun (s : State) (n : Nat) (ops : List HostOp) :
    s.completeFrame.afterZeroCostRun n ops = s.afterZeroCostRun (n + 1) ops := by
  have hindex : s.frameIndex + BitVec.ofNat 64 (n + 1) = s.frameIndex + 1 + BitVec.ofNat 64 n := by
    rw [BitVec.add_assoc, Nat.add_comm n, BitVec.ofNat_add]
    rfl
  have hresults (r : HostResult) :
      List.replicate (n + 1) r ++ s.results = List.replicate n r ++ r :: s.results := by
    rw [List.replicate_succ', List.append_assoc, List.singleton_append]
  rw [State.afterZeroCostRun, State.afterZeroCostRun, hindex, hresults]
  rfl

/-- The in-run frames of a zero-cost run, one step each (R165, R177). -/
theorem run_zeroCost (n : Nat) {s : State} {ops : List HostOp} (hidle : s.work = .idle)
    (hready : s.engineState = .ready) (halg : s.currentAlgorithm.toNat ∈ zeroCostCodes)
    (hrep : s.remainingRepeats.toNat = n) (hreq : s.requests = List.replicate n .decodeNext ++ ops) :
    Sys2Proof.core.run n s = .next (s.afterZeroCostRun n ops) := by
  induction n generalizing s with
  | zero =>
    obtain rfl : s.requests = ops := hreq
    rw [State.afterZeroCostRun_zero hidle (BitVec.eq_of_toNat_eq hrep)]
    rfl
  | succ n ih =>
    have hne : s.remainingRepeats ≠ 0 := fun h0 => by simp [h0] at hrep
    have hstep : step s = .next s.countRepeat.completeFrame := by
      rw [← State.dispatch_zeroCost (u := s.countRepeat) halg]
      exact step_inRun hidle hreq hready hne
    have hcount := State.countRepeat_remainingRepeats_toNat hne
    have hrun := ih (s := s.countRepeat.completeFrame) rfl hready halg
      (by rw [State.completeFrame_remainingRepeats]; omega)
      (by rw [State.completeFrame_requests, State.countRepeat_requests, hreq]; rfl)
    rw [State.completeFrame_afterZeroCostRun] at hrun
    exact (run_succ hstep).trans hrun

/-- Settles O27: the selector gives the first frame and the repeats the others. -/
theorem zeroCostRunYieldsRepPlusOneFrames : Obligations.ZeroCostRunYieldsRepPlusOneFrames := by
  intro s ops hat hin hcode hreq
  obtain ⟨a, -, halg⟩ := decodeSelector_eq (s.streamByte s.cursor)
  have hle := selectorRep_le (s.streamByte s.cursor)
  have hselector := (Stepped.selector hat.context hin halg).step_eq_next
  rw [← selectorAlg_eq, ← halg] at hcode
  rw [← selectorRep_eq] at hreq ⊢
  generalize selectorRep (s.streamByte s.cursor) = rep at hreq hle hselector ⊢
  rw [s.dispatch_loadSelector_zeroCost hcode] at hselector
  obtain ⟨-, -, hready, -⟩ := hat
  have hrun := run_zeroCost rep (s := (s.loadSelector a rep).completeFrame) (ops := ops) rfl hready
    (s.loadSelector_zeroCost hcode rep)
    ((BitVec.toNat_ofNat ..).trans (Nat.mod_eq_of_lt (by omega)))
    (by rw [State.completeFrame_requests, State.loadSelector_requests, hreq]; rfl)
  rw [State.completeFrame_afterZeroCostRun] at hrun
  exact ⟨_, (run_succ hselector).trans hrun, rfl, rfl, rfl, rfl, rfl, rfl⟩

end Sys2Proof.Machine

/-! The algorithms (43_algorithms.md). Both run-length algorithms paint the linear bits that a map gives for the
counts of a token: the count itself in raster order, the transposed place in column order (R197, R206). What a
token writes, what a frame leaves of the frame before it, and when the two orders are one, is read from the map.
A Verbatim frame is one CopyFrom of its payload (R192). -/

namespace Sys2Proof.Machine

open Sys2Proof

/-! ### The map of algorithm 3 -/

/-- The place, counted row by row, of the pixel at place `i` counted column by column, in `w` by `h` pixels. -/
def transposeIndex (w h i : Nat) : Nat := i % h * w + i / h

theorem State.columnIndex_eq (s : State) (i : Nat) :
    s.columnIndex i = transposeIndex s.width.toNat s.height.toNat i := rfl

theorem div_lt_and_mod_lt {w h i : Nat} (hi : i < w * h) : i / h < w ∧ i % h < h :=
  ⟨Nat.div_lt_of_lt_mul (Nat.mul_comm w h ▸ hi), Nat.mod_lt i (Nat.pos_of_lt_mul_left hi)⟩

theorem transposeIndex_lt {w h i : Nat} (hi : i < w * h) : transposeIndex w h i < w * h := by
  obtain ⟨hcolumn, hrow⟩ := div_lt_and_mod_lt hi
  calc i % h * w + i / h
    _ < i % h * w + w := Nat.add_lt_add_left hcolumn _
    _ = (i % h + 1) * w := (Nat.succ_mul _ _).symm
    _ ≤ h * w := Nat.mul_le_mul_right w hrow
    _ = w * h := Nat.mul_comm h w

/-- Transposing the frame twice gives it back. -/
theorem transposeIndex_transposeIndex {w h i : Nat} (hi : i < w * h) :
    transposeIndex h w (transposeIndex w h i) = i := by
  obtain ⟨hcolumn, -⟩ := div_lt_and_mod_lt hi
  have hmod : (i % h * w + i / h) % w = i / h := Nat.mul_add_mod_of_lt hcolumn
  have hdiv : (i % h * w + i / h) / w = i % h := by
    rw [Nat.mul_comm, Nat.mul_add_div (Nat.zero_lt_of_lt hcolumn), Nat.div_eq_of_lt hcolumn, Nat.add_zero]
  rw [transposeIndex, transposeIndex, hmod, hdiv, Nat.mul_comm, Nat.div_add_mod]

/-- Settles O39: the map is the transposition, and the transposition of the transposed frame is its inverse. -/
theorem columnMapIsABijectionOfTheFrame : Obligations.ColumnMapIsABijectionOfTheFrame := by
  intro s hgeometry
  obtain ⟨hbits, -⟩ := hgeometry
  simp only [State.columnIndex_eq, hbits]
  refine ⟨fun i hi => ⟨transposeIndex_lt hi, rfl, div_lt_and_mod_lt hi⟩,
    fun i i' hi hi' heq => ?_, fun j hj => ?_⟩
  · rw [← transposeIndex_transposeIndex hi, heq, transposeIndex_transposeIndex hi']
  · rw [Nat.mul_comm] at hj
    exact ⟨_, Nat.mul_comm s.height.toNat _ ▸ transposeIndex_lt hj, transposeIndex_transposeIndex hj⟩

theorem State.geometryOk.columnIndex_lt {s : State} (h : s.geometryOk) {i : Nat} (hi : i < s.frameBitCount.toNat) :
    s.columnIndex i < s.frameBitCount.toNat :=
  ((columnMapIsABijectionOfTheFrame s h).1 i hi).1

/-! ### The linear bits of the counts -/

/-- `s` with another frame buffer. -/
def State.withFb (s : State) (m : Memory) : State := { s with fb := m }

/-- A pixel operation writes, at a count in the frame, the linear bit that `f` gives for the count
(43_algorithms.md R197, R206); `f` depends on the geometry alone. -/
structure PixelMap (pixel : State → Nat → Bool → Except ResultCode State) (f : State → Nat → Nat) : Prop where
  op : PixelOp pixel
  eq : ∀ s i v, pixel s i v =
    if i < s.frameBitCount.toNat then s.setBit (f s i) v else .error .bitIndexOutOfRange
  advance : ∀ s n, f (s.advance n) = f s
  withFb : ∀ s m, f (s.withFb m) = f s

theorem PixelMap.setFrameByte {pixel : State → Nat → Bool → Except ResultCode State} {f : State → Nat → Nat}
    (map : PixelMap pixel f) (s : State) (k : Nat) (b : Byte) : f (s.setFrameByte k b) = f s :=
  map.withFb s (Memory.write s.fb k b)

theorem rasterMap : PixelMap rasterPixel fun _ i => i where
  op := rasterPixel_op
  eq s i v := by
    split_ifs with hi
    · rfl
    · exact State.setBit_of_not_lt hi
  advance _ _ := rfl
  withFb _ _ := rfl

theorem columnMap : PixelMap columnPixel State.columnIndex where
  op := columnPixel_op
  eq s i v := by
    split_ifs with hi
    · exact columnPixel_of_lt hi
    · exact columnPixel_of_not_lt hi
  advance _ _ := rfl
  withFb _ _ := rfl

/-- The counts from `i` on, `len` of them, and the linear bits they stand for, are in the frame. -/
def State.Fits (s : State) (f : Nat → Nat) (i len : Nat) : Prop :=
  ∀ c, i ≤ c → c < i + len → c < s.frameBitCount.toNat ∧ f c < s.frameBitCount.toNat

/-- `t` is `s` with the linear bits of the counts from `i` on, `len` of them, in one colour, and no other bit
changed. -/
def State.PaintedAt (s t : State) (f : Nat → Nat) (i len : Nat) (color : Bool) : Prop :=
  (∀ c, i ≤ c → c < i + len → t.frameBit (f c) = color) ∧
  ∀ j, (∀ c, i ≤ c → c < i + len → j ≠ f c) → t.frameBit j = s.frameBit j

theorem State.PaintedAt.refl (s : State) (f : Nat → Nat) (i : Nat) (color : Bool) : s.PaintedAt s f i 0 color :=
  ⟨fun c hle hlt => by omega, fun _ _ => rfl⟩

/-- One bit set, then the bits of the counts after it. -/
theorem State.PaintedAt.cons {s t u : State} {f : Nat → Nat} {i len : Nat} {color : Bool}
    (hbit : ∀ j, t.frameBit j = if j = f i then color else s.frameBit j)
    (hrest : t.PaintedAt u f (i + 1) len color) : s.PaintedAt u f i (len + 1) color := by
  obtain ⟨hpainted, hkept⟩ := hrest
  refine ⟨fun c hle hlt => ?_, fun j hj => ?_⟩
  · by_cases hlater : ∃ c', i + 1 ≤ c' ∧ c' < i + 1 + len ∧ f c = f c'
    · obtain ⟨c', hle', hlt', heq⟩ := hlater
      rw [heq, hpainted c' hle' hlt']
    · have hfirst : c = i := by
        by_contra hne
        exact hlater ⟨c, by omega, by omega, rfl⟩
      rw [hkept _ fun c' hle' hlt' heq => hlater ⟨c', hle', hlt', heq⟩, hbit, if_pos (by rw [hfirst])]
  · rw [hkept j fun c hle hlt => hj c (by omega) (by omega), hbit, if_neg (hj i le_rfl (by omega))]

/-- The same range painted in two states: a bit that was alike in both is alike afterwards, and so is every bit
that was painted. -/
theorem State.PaintedAt.frameBit_eq {s s' t t' : State} {f : Nat → Nat} {i len : Nat} {color : Bool}
    (h : s.PaintedAt t f i len color) (h' : s'.PaintedAt t' f i len color)
    (hbefore : ∀ c < i, s'.frameBit (f c) = s.frameBit (f c)) {c : Nat} (hc : c < i + len) :
    t'.frameBit (f c) = t.frameBit (f c) := by
  obtain ⟨hpainted, hkept⟩ := h
  obtain ⟨hpainted', hkept'⟩ := h'
  by_cases hagain : ∃ d, i ≤ d ∧ d < i + len ∧ f c = f d
  · obtain ⟨d, hle, hlt, heq⟩ := hagain
    rw [heq, hpainted d hle hlt, hpainted' d hle hlt]
  · have hfirst : c < i := by
      by_contra hlater
      exact hagain ⟨c, Nat.not_lt.1 hlater, hc, rfl⟩
    have hother : ∀ d, i ≤ d → d < i + len → f c ≠ f d := fun d hle hlt heq => hagain ⟨d, hle, hlt, heq⟩
    rw [hkept _ hother, hkept' _ hother, hbefore c hfirst]

/-! ### The pixels of a token -/

section PixelMap

variable {pixel : State → Nat → Bool → Except ResultCode State} {f : State → Nat → Nat}
  {color : Bool} {len i : Nat} {s t : State}

theorem paint_eq_withFb (hp : PixelOp pixel) (h : paint pixel color len i s = .ok t) : t = s.withFb t.fb :=
  paint_ok hp h

theorem paint_frameBitCount (hp : PixelOp pixel) (h : paint pixel color len i s = .ok t) :
    t.frameBitCount = s.frameBitCount := by
  rw [paint_eq_withFb hp h]
  rfl

/-- A token whose counts fit is painted. -/
theorem PixelMap.paint_of_fits (map : PixelMap pixel f) (color : Bool) (hwf : Memory.wf s.fb = true)
    (hfits : s.Fits (f s) i len) :
    ∃ t, paint pixel color len i s = .ok t ∧ Memory.wf t.fb = true ∧ s.PaintedAt t (f s) i len color := by
  induction len generalizing i s with
  | zero => exact ⟨s, rfl, hwf, .refl s _ i color⟩
  | succ len ih =>
    obtain ⟨hi, hbitIn⟩ := hfits i le_rfl (by omega)
    obtain ⟨u, hset, hwfu, hbit⟩ := State.setBit_spec hwf color hbitIn
    have hpixel : pixel s i color = .ok u := by rw [map.eq, if_pos hi, hset]
    obtain ⟨-, rfl⟩ := State.setBit_ok hset
    obtain ⟨t, hpaint, hwft, hrest⟩ := ih (i := i + 1) hwfu
      (by rw [map.setFrameByte]; exact fun c hle hlt => hfits c (by omega) (by omega))
    rw [map.setFrameByte] at hrest
    refine ⟨t, ?_, hwft, .cons hbit hrest⟩
    simp only [paint, hpixel]
    exact hpaint

/-- A token that is painted fits. -/
theorem PixelMap.fits_of_paint (map : PixelMap pixel f) (h : paint pixel color len i s = .ok t) :
    s.Fits (f s) i len := by
  induction len generalizing i s with
  | zero => exact fun c hle hlt => by omega
  | succ len ih =>
    simp only [paint] at h
    split at h
    · rename_i u hpixel
      rw [map.eq] at hpixel
      split_ifs at hpixel with hi
      obtain ⟨hbitIn, rfl⟩ := State.setBit_ok hpixel
      have hrest := ih h
      rw [map.setFrameByte] at hrest
      intro c hle hlt
      obtain rfl | hlater := Nat.eq_or_lt_of_le hle
      · exact ⟨hi, hbitIn⟩
      · exact hrest c hlater (by omega)
    · cases h

/-- A token that is painted has written the linear bits of its counts and no other. -/
theorem PixelMap.paintedAt_of_paint (map : PixelMap pixel f) (hwf : Memory.wf s.fb = true)
    (h : paint pixel color len i s = .ok t) : Memory.wf t.fb = true ∧ s.PaintedAt t (f s) i len color := by
  obtain ⟨u, hpaint, hwfu, hpainted⟩ := map.paint_of_fits color hwf (map.fits_of_paint h)
  obtain rfl := Except.ok.inj (h.symm.trans hpaint)
  exact ⟨hwfu, hpainted⟩

/-- A token that overshoots is not painted (43_algorithms.md R203, R209). -/
theorem PixelMap.paint_ne_ok (map : PixelMap pixel f) (hpos : 1 ≤ len) (hover : s.frameBitCount.toNat < i + len) :
    paint pixel color len i s ≠ .ok t := fun h => by
  have hlast := (map.fits_of_paint h (i + len - 1) (by omega) (by omega)).1
  omega

end PixelMap

/-- A byte is its eight bits (20_memory.md R66). -/
theorem State.frameByte_eq_of_frameBit {s t : State} {k : Nat}
    (h : ∀ j, j / 8 = k → t.frameBit j = s.frameBit j) : t.frameByte k = s.frameByte k := by
  refine BitVec.eq_of_getLsbD_eq fun b hb => ?_
  have hbyte : bitByte (8 * k + (7 - b)) = k := by simp only [bitByte]; omega
  have hplace : bitInByte (8 * k + (7 - b)) = b := by simp only [bitInByte]; omega
  simpa only [State.frameBit, hbyte, hplace] using h (8 * k + (7 - b)) hbyte

/-! ### The obligations about tokens -/

/-- A token that leaves the position `w` has consumed its byte and written the frame buffer, and its frame goes
on there or is complete (43_algorithms.md R191, R199, R207). -/
def State.TokenEnds (s t : State) (w : Work) : Prop :=
  (w.position < s.frameBitCount.toNat → t = { s with fb := t.fb, cursor := s.cursor + 1, work := w }) ∧
  (w.position = s.frameBitCount.toNat → t = { s with
    fb := t.fb, cursor := s.cursor + 1, work := .idle, frameIndex := s.frameIndex + 1,
    requests := s.requests.tail,
    results := .frame t.snapshot (decide (s.cursor + 1 < s.streamLength)) :: s.results })

theorem tokenEnds_of_paint {pixel : State → Nat → Bool → Except ResultCode State} (hp : PixelOp pixel)
    {s u : State} {color : Bool} {len i : Nat} (hpaint : paint pixel color len i (s.advance 1) = .ok u) (w : Work) :
    s.TokenEnds (u.continueFrame s.frameBitCount.toNat w) w := by
  rw [paint_eq_withFb hp hpaint]
  refine ⟨fun hmore => ?_, fun hlast => ?_⟩
  · rw [State.continueFrame_of_lt hmore]
    rfl
  · rw [State.continueFrame_of_not_lt (Nat.not_lt.2 hlast.ge)]
    rfl

theorem exec_tokRaster {s : State} {i : Nat} (hat : s.atRasterToken i) (color : Bool) (len : Nat) :
    exec (.tokRaster color len) s = .next (s.rasterToken color len) :=
  inContext_of_context (State.context_raster.2 ⟨⟨i, hat.1⟩, hat.2⟩)

theorem exec_tokColumn {s : State} {i : Nat} (hat : s.atColumnToken i) (color : Bool) (len : Nat) :
    exec (.tokColumn color len) s = .next (s.columnToken color len) :=
  inContext_of_context (State.context_column.2 ⟨⟨i, hat.1⟩, hat.2⟩)

theorem exec_tokRaster_of_ok {s u : State} {i len : Nat} {color : Bool} (hat : s.atRasterToken i)
    (hpaint : paint rasterPixel color len i (s.advance 1) = .ok u) :
    exec (.tokRaster color len) s = .next (u.continueFrame s.frameBitCount.toNat (.raster (i + len))) := by
  rw [exec_tokRaster hat]
  simp only [State.rasterToken, hat.1, Work.position, hpaint, paint_frameBitCount rasterPixel_op hpaint,
    State.advance_frameBitCount]

theorem exec_tokColumn_of_ok {s u : State} {i len : Nat} {color : Bool} (hat : s.atColumnToken i)
    (hpaint : paint columnPixel color len i (s.advance 1) = .ok u) :
    exec (.tokColumn color len) s = .next (u.continueFrame s.frameBitCount.toNat (.column (i + len))) := by
  rw [exec_tokColumn hat]
  simp only [State.columnToken, hat.1, Work.position, hpaint, paint_frameBitCount columnPixel_op hpaint,
    State.advance_frameBitCount]

theorem State.continueFrame_frameBit (s : State) (bound : Nat) (w : Work) (j : Nat) :
    (s.continueFrame bound w).frameBit j = s.frameBit j := by
  rw [State.frameBit, State.continueFrame_frameByte, State.frameBit]

/-- Settles O28: the bits of the token's counts are painted, and a byte without one of them keeps all its bits. -/
theorem rasterTokenWritesItsPixels : Obligations.RasterTokenWritesItsPixels := by
  intro s i len color hwf hat hfits
  obtain ⟨u, hpaint, -, hpainted⟩ := paint_raster_spec color len i (s := s.advance 1) hwf hfits
  refine ⟨_, exec_tokRaster_of_ok hat hpaint, fun j => (u.continueFrame_frameBit _ _ j).trans (hpainted j),
    fun k hk => ?_, tokenEnds_of_paint rasterPixel_op hpaint (.raster (i + len))⟩
  rw [State.continueFrame_frameByte]
  refine State.frameByte_eq_of_frameBit (s := s) fun j hj => (hpainted j).trans (if_neg fun hin => ?_)
  exact hk j hin.1 hin.2 hj

/-- Settles O29: the bits of a header's counts are in the frame, so a token that fits is painted. -/
theorem columnTokenWritesItsPixels : Obligations.ColumnTokenWritesItsPixels := by
  intro s i len color hwf hgeometry hat hfits
  obtain ⟨u, hpaint, -, hpainted, hkept⟩ := columnMap.paint_of_fits (i := i) (len := len) (s := s.advance 1) color
    hwf fun c _ hlt =>
      have hc : c < s.frameBitCount.toNat := by omega
      ⟨hc, hgeometry.columnIndex_lt hc⟩
  have hbits := u.continueFrame_frameBit s.frameBitCount.toNat (.column (i + len))
  refine ⟨_, exec_tokColumn_of_ok hat hpaint, fun c hle hlt => (hbits _).trans (hpainted c hle hlt),
    fun j hj => (hbits j).trans (hkept j hj), fun k hk => ?_,
    tokenEnds_of_paint columnPixel_op hpaint (.column (i + len))⟩
  rw [State.continueFrame_frameByte]
  refine State.frameByte_eq_of_frameBit (s := s) fun j hj => hkept j fun c hle hlt heq => ?_
  exact hk c hle hlt ((congrArg (· / 8) heq).symm.trans hj)

/-- Settles O30: of what a token can do only the error is left. -/
theorem overshootingTokenFails : Obligations.OvershootingTokenFails := by
  intro s i len color hpos hover
  refine ⟨fun hat => ⟨_, exec_tokRaster hat color len, ?_⟩,
    fun hat => ⟨_, exec_tokColumn hat color len, ?_⟩⟩
  · obtain ⟨t, hpaint, -⟩ | hraise := s.rasterToken_cases color len
    · rw [hat.1] at hpaint
      exact absurd hpaint (rasterMap.paint_ne_ok hpos hover)
    · exact hraise ▸ s.raise_failedWith _
  · obtain ⟨t, hpaint, -⟩ | hraise := s.columnToken_cases color len
    · rw [hat.1] at hpaint
      exact absurd hpaint (columnMap.paint_ne_ok hpos hover)
    · exact hraise ▸ s.raise_failedWith _

/-! ### Whole run-length frames -/

/-- The token loop from count `i` in a state reaches the end of the frame in `t`, with `remaining` bytes of the
stream left at most. -/
inductive TokenRun (pixel : State → Nat → Bool → Except ResultCode State) (t : State) :
    Nat → Nat → State → Prop where
  | full {remaining i : Nat} (complete : t.frameBitCount.toNat ≤ i) : TokenRun pixel t remaining i t
  | token {remaining i : Nat} {s u : State} (inFrame : i < s.frameBitCount.toNat)
      (painted : paint pixel (tokenColor (s.streamByte s.cursor)) (tokenLength (s.streamByte s.cursor)) i
        (s.advance 1) = .ok u)
      (rest : TokenRun pixel t remaining (i + tokenLength (s.streamByte s.cursor)) u) :
      TokenRun pixel t (remaining + 1) i s

section TokenRun

variable {pixel : State → Nat → Bool → Except ResultCode State} {f : State → Nat → Nat}
  {remaining i : Nat} {s t : State}

theorem tokenRun_of_tokenLoop (h : tokenLoop pixel remaining i s = .ok t) : TokenRun pixel t remaining i s := by
  induction remaining generalizing i s with
  | zero =>
    by_cases hi : i < s.frameBitCount.toNat
    · simp [tokenLoop_zero hi] at h
    · obtain rfl := Except.ok.inj ((tokenLoop_of_not_lt hi).symm.trans h)
      exact .full (Nat.not_lt.1 hi)
  | succ remaining ih =>
    by_cases hi : i < s.frameBitCount.toNat
    · cases hpaint : paint pixel (tokenColor (s.streamByte s.cursor)) (tokenLength (s.streamByte s.cursor)) i
          (s.advance 1) with
      | ok u =>
        rw [tokenLoop_succ_of_ok hi hpaint] at h
        exact .token hi hpaint (ih h)
      | error e => simp [tokenLoop_succ_of_error hi hpaint] at h
    · obtain rfl := Except.ok.inj ((tokenLoop_of_not_lt hi).symm.trans h)
      exact .full (Nat.not_lt.1 hi)

/-- A frame of either run-length algorithm keeps every bit outside the frame (43_algorithms.md R204). -/
theorem TokenRun.frameBit_padding (map : PixelMap pixel f) (h : TokenRun pixel t remaining i s)
    (hwf : Memory.wf s.fb = true) {j : Nat} (hj : s.frameBitCount.toNat ≤ j) : t.frameBit j = s.frameBit j := by
  induction h with
  | full => rfl
  | @token _ i s u _ hpaint _ ih =>
    have hfits := map.fits_of_paint hpaint
    obtain ⟨hwfu, -, hkept⟩ := map.paintedAt_of_paint (s := s.advance 1) hwf hpaint
    have hcount := paint_frameBitCount map.op hpaint
    rw [State.advance_frameBitCount] at hcount
    calc t.frameBit j
      _ = u.frameBit j := ih hwfu (hcount ▸ hj)
      _ = s.frameBit j := hkept j fun c hle hlt => (lt_of_lt_of_le (hfits c hle hlt).2 hj).ne'

/-- Over another frame buffer that has the pixels of the counts so far, the token loop takes the same tokens and
leaves the same pixels (43_algorithms.md R201, R211). -/
theorem TokenRun.withFb (map : PixelMap pixel f) (h : TokenRun pixel t remaining i s) {m : Memory}
    (hwf : Memory.wf s.fb = true) (hwfm : Memory.wf m = true)
    (hbefore : ∀ c < i, (s.withFb m).frameBit (f s c) = s.frameBit (f s c)) :
    ∃ u, tokenLoop pixel remaining i (s.withFb m) = .ok u ∧ u.cursor = t.cursor ∧
      ∀ c < s.frameBitCount.toNat, u.frameBit (f s c) = t.frameBit (f s c) := by
  induction h generalizing m with
  | full hfull =>
    exact ⟨t.withFb m, tokenLoop_of_not_lt (Nat.not_lt.2 hfull), rfl, fun c hc => hbefore c (hc.trans_le hfull)⟩
  | @token _ i s v hi hpaint _ ih =>
    have hfits := map.fits_of_paint hpaint
    obtain ⟨hwfv, hpainted⟩ := map.paintedAt_of_paint (s := s.advance 1) hwf hpaint
    obtain ⟨v', hpaint', hwfv', hpainted'⟩ := map.paint_of_fits (s := (s.advance 1).withFb m)
      (tokenColor (s.streamByte s.cursor)) hwfm (by rw [map.withFb]; exact hfits)
    have hv := paint_eq_withFb map.op hpaint
    have hv' := calc v'
      _ = ((s.advance 1).withFb m).withFb v'.fb := paint_eq_withFb map.op hpaint'
      _ = v.withFb v'.fb := by rw [hv]; rfl
    have hf : f v = f s := by rw [hv, map.withFb, map.advance]
    have hcount := paint_frameBitCount map.op hpaint
    rw [State.advance_frameBitCount] at hcount
    rw [map.withFb, map.advance] at hpainted'
    rw [map.advance] at hpainted
    rw [hv'] at hpaint' hpainted'
    rw [hf, hcount] at ih
    obtain ⟨u, hloop, hcursor, hbits⟩ := ih hwfv hwfv' fun c hc =>
      hpainted.frameBit_eq hpainted' hbefore hc
    exact ⟨u, (tokenLoop_succ_of_ok (s := s.withFb m) hi hpaint').trans hloop, hcursor, hbits⟩

/-- A frame of an algorithm that reaches every bit of the frame leaves the same pixels over any frame buffer. -/
theorem PixelMap.frame_withFb (map : PixelMap pixel f) {m : Memory} (hwf : Memory.wf s.fb = true)
    (hwfm : Memory.wf m = true)
    (honto : ∀ j < s.frameBitCount.toNat, ∃ c < s.frameBitCount.toNat, f s c = j)
    (h : tokenLoop pixel remaining 0 s = .ok t) :
    ∃ u, tokenLoop pixel remaining 0 (s.withFb m) = .ok u ∧ u.cursor = t.cursor ∧
      ∀ j, j < s.frameBitCount.toNat → u.frameBit j = t.frameBit j := by
  obtain ⟨u, hloop, hcursor, hbits⟩ := (tokenRun_of_tokenLoop h).withFb map hwf hwfm fun c hc =>
    absurd hc (Nat.not_lt_zero c)
  refine ⟨u, hloop, hcursor, fun j hj => ?_⟩
  obtain ⟨c, hc, rfl⟩ := honto j hj
  exact hbits c hc

end TokenRun

/-! ### The obligations about whole run-length frames -/

/-- Settles O38: both algorithms write through SetBit, which checks the linear bit. -/
theorem runLengthFramesKeepThePadding : Obligations.RunLengthFramesKeepThePadding := by
  intro s t hwf hframe j hj
  obtain hraster | hcolumn := hframe
  · exact (tokenRun_of_tokenLoop hraster).frameBit_padding rasterMap hwf hj
  · exact (tokenRun_of_tokenLoop hcolumn).frameBit_padding columnMap hwf hj

/-- Settles O37: both maps are onto the frame. -/
theorem runLengthPixelsIgnoreThePreviousFrame : Obligations.RunLengthPixelsIgnoreThePreviousFrame := by
  intro s t m hwf hwfm hgeometry
  obtain ⟨-, -, honto⟩ := columnMapIsABijectionOfTheFrame s hgeometry
  exact ⟨rasterMap.frame_withFb hwf hwfm fun j hj => ⟨j, hj, rfl⟩, columnMap.frame_withFb hwf hwfm honto⟩

/-! ### A frame of one row or one column -/

/-- The geometry is that of a frame of one row or one column (43_algorithms.md R212). -/
def State.IsLine (s : State) : Prop := s.geometryOk ∧ (s.height = 1 ∨ s.width = 1)

/-- On a line the transposition moves no pixel. -/
theorem State.IsLine.columnIndex_eq {s : State} (h : s.IsLine) {i : Nat} (hi : i < s.frameBitCount.toNat) :
    s.columnIndex i = i := by
  obtain ⟨⟨hbits, -⟩, hheight | hwidth⟩ := h
  · rw [State.columnIndex_eq, transposeIndex, hheight]
    simp [Nat.mod_one]
  · rw [hbits, hwidth] at hi
    have hlt : i < s.height.toNat := by simpa using hi
    rw [State.columnIndex_eq, transposeIndex, hwidth, Nat.mod_eq_of_lt hlt, Nat.div_eq_of_lt hlt]
    simp

theorem State.IsLine.columnPixel_eq {s : State} (h : s.IsLine) (i : Nat) (v : Bool) :
    columnPixel s i v = rasterPixel s i v := by
  rw [columnMap.eq, rasterMap.eq]
  split_ifs with hi
  · rw [h.columnIndex_eq hi]
  · rfl

theorem State.IsLine.paint_eq {s : State} (h : s.IsLine) (color : Bool) (len i : Nat) :
    paint columnPixel color len i s = paint rasterPixel color len i s := by
  induction len generalizing i s with
  | zero => rfl
  | succ len ih =>
    simp only [paint, h.columnPixel_eq]
    cases hpixel : rasterPixel s i color with
    | ok t =>
      obtain ⟨j, b, -, rfl⟩ := rasterPixel_op.ok hpixel
      exact ih (s := s.setFrameByte (bitByte j) b) h (i + 1)
    | error e => rfl

theorem State.IsLine.tokenLoop_eq {s : State} (h : s.IsLine) (remaining i : Nat) :
    tokenLoop columnPixel remaining i s = tokenLoop rasterPixel remaining i s := by
  induction remaining generalizing i s with
  | zero => rfl
  | succ remaining ih =>
    have hround := State.IsLine.paint_eq (s := s.advance 1) h (tokenColor (s.streamByte s.cursor))
      (tokenLength (s.streamByte s.cursor)) i
    by_cases hi : i < s.frameBitCount.toNat
    · cases hpaint : paint rasterPixel (tokenColor (s.streamByte s.cursor))
          (tokenLength (s.streamByte s.cursor)) i (s.advance 1) with
      | ok t =>
        have hline : t.IsLine := by
          rw [paint_ok rasterPixel_op hpaint]
          exact h
        rw [tokenLoop_succ_of_ok hi hpaint, tokenLoop_succ_of_ok hi (hround.trans hpaint), ih hline]
      | error e => rw [tokenLoop_succ_of_error hi hpaint, tokenLoop_succ_of_error hi (hround.trans hpaint)]
    · rw [tokenLoop_of_not_lt hi, tokenLoop_of_not_lt hi]

/-- Settles O40: on a line both pixel operations are the same. -/
theorem columnOrderIsRasterOrderOnALine : Obligations.ColumnOrderIsRasterOrderOnALine :=
  fun s hgeometry hline => State.IsLine.tokenLoop_eq ⟨hgeometry, hline⟩ (s.streamLength - s.cursor) 0

/-! ### Verbatim -/

/-- Settles O36: past the length check the frame is CopyFrom of its payload. -/
theorem verbatimFrameIsItsPayload : Obligations.VerbatimFrameIsItsPayload := by
  intro s hwf
  refine ⟨fun hshort => if_pos hshort, fun hfits => ?_⟩
  have hlength := Memory.readBytes_length s.stream s.cursor s.frameByteCount.toNat
  obtain ⟨hsnapshot, -, heq⟩ := copyFromIsAByteForByteCopy s _ hwf hlength
  generalize hcopy : s.copyFrom 0 (Memory.readBytes s.stream s.cursor s.frameByteCount.toNat) = u
    at hsnapshot heq
  have hframe : s.verbatimFrame = .ok (u.advance s.frameByteCount.toNat) := by
    rw [State.verbatimFrame, if_neg (Nat.not_lt.2 hfits), hcopy]
  have hpayload : (u.advance s.frameByteCount.toNat).snapshot =
      Memory.readBytes s.stream s.cursor s.frameByteCount.toNat := hsnapshot
  have hcursor : u.cursor = s.cursor := by rw [heq]
  refine ⟨_, hframe, ?_, ?_, fun k hk => ?_, ?_⟩
  · rw [State.advance_cursor, hcursor]
  · rw [hpayload, hlength]
  · rw [hpayload, Memory.readBytes_getElem? _ _ hk, State.streamByte]
  · rw [heq]
    rfl

/-- Settles O24: an error leaves what the selector has loaded unspecified, and the rest as it was before it. -/
theorem verbatimSelectorWithoutItsPayloadFails : Obligations.VerbatimSelectorWithoutItsPayloadFails := by
  intro s rep hat hshort
  refine ⟨s.raise .truncatedStream, ?_, s.raise_failedWith _⟩
  have hdispatch : (s.loadSelector .verbatim rep).dispatch = s.raise .truncatedStream :=
    (State.dispatch_verbatim rfl).trans (State.beginVerbatim_of_lt hshort)
  exact (hat.exec_selector .verbatim rep).trans (congrArg _ hdispatch)

end Sys2Proof.Machine

/-! The engine at rest (60_exceptions.md R249, 70_reset_and_hazards.md R260) and the numbers of the result codes
(R235). A number below 5 gives its result code back, so no two codes share one, and 5 to 7 are left over. -/

namespace Sys2Proof.Machine

open Sys2Proof

/-- Settles O9: the host's part of a step is empty when nothing is requested. -/
theorem nothingRequestedNothingChanges : Obligations.NothingRequestedNothingChanges :=
  ⟨rfl, rfl, fun _ => step_of_no_request⟩

/-! ### The numbers of the result codes -/

/-- The result code with a number; 5 to 7 have none (R235). -/
def ResultCode.ofCode : BitVec 3 → Option ResultCode
  | 0 => some .ok
  | 1 => some .truncatedHeader
  | 2 => some .truncatedStream
  | 3 => some .bitIndexOutOfRange
  | 4 => some .unknownAlgorithm
  | _ => none

@[simp] theorem ResultCode.ofCode_code (c : ResultCode) : ResultCode.ofCode c.code = some c := by
  cases c <;> rfl

theorem ResultCode.code_injective : Function.Injective ResultCode.code := fun c c' h =>
  Option.some.inj <| calc
    some c = ResultCode.ofCode c.code := c.ofCode_code.symm
    _ = ResultCode.ofCode c'.code := congrArg ResultCode.ofCode h
    _ = some c' := c'.ofCode_code

/-- A number without a result code is no result code's number. -/
theorem ResultCode.code_ne_of_ofCode_eq_none {b : BitVec 3} (h : ResultCode.ofCode b = none) (c : ResultCode) :
    c.code ≠ b := by
  rintro rfl
  simp at h

/-- Settles O46: reading a number back tells the five codes apart and gives none for 5, 6 and 7. -/
theorem resultCodesAreNumberedZeroToFour : Obligations.ResultCodesAreNumberedZeroToFour :=
  ⟨rfl, rfl, rfl, rfl, rfl, fun _ _ h => ResultCode.code_injective h, fun c =>
    ⟨c.code_ne_of_ofCode_eq_none rfl, c.code_ne_of_ofCode_eq_none rfl, c.code_ne_of_ofCode_eq_none rfl⟩⟩

end Sys2Proof.Machine
